-- ==== Sys2Proof/Word.lean ====
section
/-! DEFINITION. The machine's byte types. Every register of the device is one byte (20_memory R64, R65); all other
values of the rules are mathematical integers (00_scope R10) and stand as `Nat` or `Int`. -/

namespace Sys2Proof

/-- One register byte (20_memory R64). -/
abbrev Byte := BitVec 8

/-- The four data bits of a latch byte (30_encoding R82). -/
abbrev Nibble := BitVec 4

end Sys2Proof
end

