-- ==== Sys2Proof/Syntax.lean ====
section
/-! DEFINITION. The instructions: one constructor for each row of spec/opcode_table.json. The 13 host operations of
30_encoding R80 carry their operands as integers, before any range check (30_encoding R81); the SID_WR_* and SN_* rows
carry the row's free bits. -/

namespace Sys2Proof

/-- The two chip models (00_scope R2). -/
inductive ChipModel where
  | mos6581
  | mos8580
deriving DecidableEq, Repr

/-- The two agents (00_scope R6). -/
inductive Agent where
  | hostW
  | engine
deriving DecidableEq, Repr

/-- The host context of SID_CREATE (00_scope R8, 70 R320), as given: not yet checked. -/
structure HostContext where
  sampleRate : Int
  cpuHz : Int
  clockRatio : Int
  attenuation : Int
deriving DecidableEq, Repr

/-- The configuration of SN_CREATE (10_state R39, 70 R322), as given: not yet checked. -/
structure SnArgs where
  quality : Int
  clock : Int
  sampleRate : Int
  baseIncr : Int
  smoothShift : Int
  whiteTap : Int
  noiseSeed : Int
  frefMult : Int
  volTable : List Int
deriving DecidableEq, Repr

/-- One constructor per row of the opcode table. -/
inductive Instr where
  -- the host operations (30_encoding R80)
  | sidCreate (m : Int) (ctx : HostContext)
  | sidReset
  | sidWrite (a d : Int)
  | sidRead (a : Int)
  | sidAdvance (c : Int)
  | sidRender
  | snCreate (cfg : SnArgs)
  | snReset
  | snWrite (b : Int)
  | snGgWrite (b : Int)
  | snSetMute (i f : Int)
  | snStep
  | snStepStereo
  -- register writes on the SID register space, by offset (10_state R44 to R55)
  | sidWrV0FreqLo (d : Byte)
  | sidWrV0FreqHi (d : Byte)
  | sidWrV0PwLo (d : Byte)
  | sidWrV0PwHi (d : Byte)
  | sidWrV0Control (d : Byte)
  | sidWrV0Ad (d : Byte)
  | sidWrV0Sr (d : Byte)
  | sidWrV1FreqLo (d : Byte)
  | sidWrV1FreqHi (d : Byte)
  | sidWrV1PwLo (d : Byte)
  | sidWrV1PwHi (d : Byte)
  | sidWrV1Control (d : Byte)
  | sidWrV1Ad (d : Byte)
  | sidWrV1Sr (d : Byte)
  | sidWrV2FreqLo (d : Byte)
  | sidWrV2FreqHi (d : Byte)
  | sidWrV2PwLo (d : Byte)
  | sidWrV2PwHi (d : Byte)
  | sidWrV2Control (d : Byte)
  | sidWrV2Ad (d : Byte)
  | sidWrV2Sr (d : Byte)
  | sidWrFcLo (d : Byte)
  | sidWrFcHi (d : Byte)
  | sidWrResFilt (d : Byte)
  | sidWrModeVol (d : Byte)
  | sidWrPotx (d : Byte)
  | sidWrPoty (d : Byte)
  | sidWrOsc3 (d : Byte)
  | sidWrEnv3 (d : Byte)
  -- bytes on the SN76489 data port (30_encoding R82 to R84); ignored bits are kept as operands
  | snLatchTone0Freq (d : Nibble)
  | snLatchTone0Vol (d : Nibble)
  | snLatchTone1Freq (d : Nibble)
  | snLatchTone1Vol (d : Nibble)
  | snLatchTone2Freq (d : Nibble)
  | snLatchTone2Vol (d : Nibble)
  | snLatchNoiseCtrl (x m : BitVec 1) (rr : BitVec 2)
  | snLatchNoiseVol (d : Nibble)
  | snData (x : BitVec 1) (h : BitVec 6)
deriving DecidableEq, Repr

/-- The names of the host operations (30_encoding R80: no other operation exists). -/
inductive HostOp where
  | sidCreate
  | sidReset
  | sidWrite
  | sidRead
  | sidAdvance
  | sidRender
  | snCreate
  | snReset
  | snWrite
  | snGgWrite
  | snSetMute
  | snStep
  | snStepStereo
deriving DecidableEq, Repr

/-- How one operation reaches the device: as the record (mnemonic, operands) of 30_encoding R110, or as a write on one of
the byte-wide spaces of 20_memory R60 that have rows of their own in the opcode table. -/
inductive Code where
  /-- A host operation's record: its name and its operands in the order of 30_encoding R80. -/
  | record (op : HostOp) (operands : List Int)
  /-- A write of `data` at `offset` of the SID register space. -/
  | sidBus (offset data : Byte)
  /-- A byte on the SN76489 data port. -/
  | snBus (b : Byte)
deriving DecidableEq, Repr

/-- One of three: a SID voice (00_scope R14) or an SN76489 tone channel (10_state R33). -/
inductive Ix3 where
  | i0
  | i1
  | i2
deriving DecidableEq, Repr

/-- A HOST_W operation with operands in range, as it falls between two sub-steps of an ENGINE operation
(20_memory R66; a refused operation changes nothing and is left out, log 7). -/
inductive HostAct where
  | sidWrite (a : Fin 29) (d : Byte)
  | sidRead (a : Fin 29)
  | snWrite (b : Byte)
  | snGgWrite (b : Byte)
  | snSetMute (i : Ix3) (f : Bool)
deriving DecidableEq, Repr

end Sys2Proof
end

