-- ==== Sys2Proof/Machine/Bits.lean ====
section
/-! DEFINITION. The notation of 00_scope R10 to R12: bits, slices, shifts and divisions on mathematical integers. -/

namespace Sys2Proof.Machine

/-- `x[i]` (00_scope R11). -/
def bit (x i : Nat) : Bool := x.testBit i

/-- `x[hi:lo]` (00_scope R11). -/
def slice (x hi lo : Nat) : Nat := x / 2 ^ lo % 2 ^ (hi - lo + 1)

/-- A truth value as the natural 0 or 1. -/
def bitNat (b : Bool) : Nat := if b then 1 else 0

/-- `x >> k` on an integer: the floor shift (00_scope R12). -/
def asr (x : Int) (k : Nat) : Int := x / 2 ^ k

/-- `tdiv(x, y)`: the quotient truncated toward zero (00_scope R12). -/
def truncDiv (x y : Int) : Int := Int.tdiv x y

/-- `clamp(x, lo, hi)` (00_scope R12). -/
def clamp (x lo hi : Int) : Int := min (max x lo) hi

/-- The operand `x` lies in `0..hi` (30_encoding R81). -/
def inRange (hi x : Int) : Bool := decide (0 ≤ x ∧ x ≤ hi)

/-- The value lies in `-2^31..2^31-1` (42 R213). -/
def inInt32 (x : Int) : Bool := decide (-2 ^ 31 ≤ x ∧ x ≤ 2 ^ 31 - 1)

/-- Whether an odd number of the bits `0..n-1` of `x` are 1. -/
def parityBits : Nat → Nat → Bool
  | 0, _ => false
  | n + 1, x => xor (x.testBit n) (parityBits n x)

/-- `parity(x)` of a 16-bit word (43 R250). -/
def parity (x : Nat) : Bool := parityBits 16 x

/-- The number of an index. -/
def num : Ix3 → Nat
  | .i0 => 0
  | .i1 => 1
  | .i2 => 2

end Sys2Proof.Machine
end

