-- ==== Sys2Proof/Decode.lean ====
section
/-! DEFINITION. The decoder, the encoder after it, and the opcode table's rows as masks and patterns. Host operations
are selected by their record (30_encoding R110); the SID_WR_* rows by the offset (opcode table, 20_memory R62); the SN76489
rows by bit 7 and bits 6..4 (30_encoding R82, R83). -/

namespace Sys2Proof

/-- Why a code stands for no instruction. -/
inductive DecodeError where
  /-- The record's operand count is not that of 30_encoding R80 (log 21). -/
  | notAnOperation (op : HostOp)
  /-- The offset lies above 0x1C (30_encoding R88). -/
  | noSuchOffset (offset : Byte)
deriving DecidableEq, Repr

/-- A host operation's record (30_encoding R80, R110). -/
def decodeRecord (op : HostOp) (operands : List Int) : Except DecodeError Instr :=
  match op, operands with
  | .sidCreate, [m, sampleRate, cpuHz, clockRatio, attenuation] =>
    .ok (.sidCreate m ⟨sampleRate, cpuHz, clockRatio, attenuation⟩)
  | .sidReset, [] => .ok .sidReset
  | .sidWrite, [a, d] => .ok (.sidWrite a d)
  | .sidRead, [a] => .ok (.sidRead a)
  | .sidAdvance, [c] => .ok (.sidAdvance c)
  | .sidRender, [] => .ok .sidRender
  | .snCreate, quality :: clock :: sampleRate :: baseIncr :: smoothShift :: whiteTap :: noiseSeed :: frefMult :: volTable =>
    .ok (.snCreate ⟨quality, clock, sampleRate, baseIncr, smoothShift, whiteTap, noiseSeed, frefMult, volTable⟩)
  | .snReset, [] => .ok .snReset
  | .snWrite, [b] => .ok (.snWrite b)
  | .snGgWrite, [b] => .ok (.snGgWrite b)
  | .snSetMute, [i, f] => .ok (.snSetMute i f)
  | .snStep, [] => .ok .snStep
  | .snStepStereo, [] => .ok .snStepStereo
  | op, _ => .error (.notAnOperation op)

/-- A write on the SID register space: the row of the opcode table whose offset it is. -/
def decodeSidBus (offset data : Byte) : Except DecodeError Instr :=
  match offset.toNat with
  | 0x00 => .ok (.sidWrV0FreqLo data)
  | 0x01 => .ok (.sidWrV0FreqHi data)
  | 0x02 => .ok (.sidWrV0PwLo data)
  | 0x03 => .ok (.sidWrV0PwHi data)
  | 0x04 => .ok (.sidWrV0Control data)
  | 0x05 => .ok (.sidWrV0Ad data)
  | 0x06 => .ok (.sidWrV0Sr data)
  | 0x07 => .ok (.sidWrV1FreqLo data)
  | 0x08 => .ok (.sidWrV1FreqHi data)
  | 0x09 => .ok (.sidWrV1PwLo data)
  | 0x0A => .ok (.sidWrV1PwHi data)
  | 0x0B => .ok (.sidWrV1Control data)
  | 0x0C => .ok (.sidWrV1Ad data)
  | 0x0D => .ok (.sidWrV1Sr data)
  | 0x0E => .ok (.sidWrV2FreqLo data)
  | 0x0F => .ok (.sidWrV2FreqHi data)
  | 0x10 => .ok (.sidWrV2PwLo data)
  | 0x11 => .ok (.sidWrV2PwHi data)
  | 0x12 => .ok (.sidWrV2Control data)
  | 0x13 => .ok (.sidWrV2Ad data)
  | 0x14 => .ok (.sidWrV2Sr data)
  | 0x15 => .ok (.sidWrFcLo data)
  | 0x16 => .ok (.sidWrFcHi data)
  | 0x17 => .ok (.sidWrResFilt data)
  | 0x18 => .ok (.sidWrModeVol data)
  | 0x19 => .ok (.sidWrPotx data)
  | 0x1A => .ok (.sidWrPoty data)
  | 0x1B => .ok (.sidWrOsc3 data)
  | 0x1C => .ok (.sidWrEnv3 data)
  | _ => .error (.noSuchOffset offset)

/-- A latch byte's address field, bits 6..4 (30_encoding R82). -/
def latchAddress (b : Byte) : BitVec 3 := b.extractLsb' 4 3

/-- A latch byte's data field, bits 3..0 (30_encoding R82). -/
def latchData (b : Byte) : Nibble := b.extractLsb' 0 4

/-- A byte on the SN76489 data port: bit 7 tells latch from data byte (30_encoding R82), bits 6..4 the register (R83). -/
def decodeSnBus (b : Byte) : Instr :=
  if b.getLsbD 7 then
    match (latchAddress b).toNat with
    | 0 => .snLatchTone0Freq (latchData b)
    | 1 => .snLatchTone0Vol (latchData b)
    | 2 => .snLatchTone1Freq (latchData b)
    | 3 => .snLatchTone1Vol (latchData b)
    | 4 => .snLatchTone2Freq (latchData b)
    | 5 => .snLatchTone2Vol (latchData b)
    | 6 => .snLatchNoiseCtrl (b.extractLsb' 3 1) (b.extractLsb' 2 1) (b.extractLsb' 0 2)
    | _ => .snLatchNoiseVol (latchData b)
  else
    .snData (b.extractLsb' 6 1) (b.extractLsb' 0 6)

/-- The instruction a code stands for, or the name of what is wrong with it. -/
def decode : Code → Except DecodeError Instr
  | .record op operands => decodeRecord op operands
  | .sidBus offset data => decodeSidBus offset data
  | .snBus b => .ok (decodeSnBus b)

/-- A latch byte `1aaadddd` (30_encoding R82). -/
def latchByte (aaa : BitVec 3) (d : Nibble) : Byte := 1#1 ++ aaa ++ d

/-- The code of an instruction (30_encoding R80, R82 to R84, R110; the opcode table's offsets). -/
def encode : Instr → Code
  | .sidCreate m ctx => .record .sidCreate [m, ctx.sampleRate, ctx.cpuHz, ctx.clockRatio, ctx.attenuation]
  | .sidReset => .record .sidReset []
  | .sidWrite a d => .record .sidWrite [a, d]
  | .sidRead a => .record .sidRead [a]
  | .sidAdvance c => .record .sidAdvance [c]
  | .sidRender => .record .sidRender []
  | .snCreate c => .record .snCreate (c.quality :: c.clock :: c.sampleRate :: c.baseIncr :: c.smoothShift :: c.whiteTap :: c.noiseSeed :: c.frefMult :: c.volTable)
  | .snReset => .record .snReset []
  | .snWrite b => .record .snWrite [b]
  | .snGgWrite b => .record .snGgWrite [b]
  | .snSetMute i f => .record .snSetMute [i, f]
  | .snStep => .record .snStep []
  | .snStepStereo => .record .snStepStereo []
  | .sidWrV0FreqLo d => .sidBus 0x00#8 d
  | .sidWrV0FreqHi d => .sidBus 0x01#8 d
  | .sidWrV0PwLo d => .sidBus 0x02#8 d
  | .sidWrV0PwHi d => .sidBus 0x03#8 d
  | .sidWrV0Control d => .sidBus 0x04#8 d
  | .sidWrV0Ad d => .sidBus 0x05#8 d
  | .sidWrV0Sr d => .sidBus 0x06#8 d
  | .sidWrV1FreqLo d => .sidBus 0x07#8 d
  | .sidWrV1FreqHi d => .sidBus 0x08#8 d
  | .sidWrV1PwLo d => .sidBus 0x09#8 d
  | .sidWrV1PwHi d => .sidBus 0x0A#8 d
  | .sidWrV1Control d => .sidBus 0x0B#8 d
  | .sidWrV1Ad d => .sidBus 0x0C#8 d
  | .sidWrV1Sr d => .sidBus 0x0D#8 d
  | .sidWrV2FreqLo d => .sidBus 0x0E#8 d
  | .sidWrV2FreqHi d => .sidBus 0x0F#8 d
  | .sidWrV2PwLo d => .sidBus 0x10#8 d
  | .sidWrV2PwHi d => .sidBus 0x11#8 d
  | .sidWrV2Control d => .sidBus 0x12#8 d
  | .sidWrV2Ad d => .sidBus 0x13#8 d
  | .sidWrV2Sr d => .sidBus 0x14#8 d
  | .sidWrFcLo d => .sidBus 0x15#8 d
  | .sidWrFcHi d => .sidBus 0x16#8 d
  | .sidWrResFilt d => .sidBus 0x17#8 d
  | .sidWrModeVol d => .sidBus 0x18#8 d
  | .sidWrPotx d => .sidBus 0x19#8 d
  | .sidWrPoty d => .sidBus 0x1A#8 d
  | .sidWrOsc3 d => .sidBus 0x1B#8 d
  | .sidWrEnv3 d => .sidBus 0x1C#8 d
  | .snLatchTone0Freq d => .snBus (latchByte 0#3 d)
  | .snLatchTone0Vol d => .snBus (latchByte 1#3 d)
  | .snLatchTone1Freq d => .snBus (latchByte 2#3 d)
  | .snLatchTone1Vol d => .snBus (latchByte 3#3 d)
  | .snLatchTone2Freq d => .snBus (latchByte 4#3 d)
  | .snLatchTone2Vol d => .snBus (latchByte 5#3 d)
  | .snLatchNoiseCtrl x m rr => .snBus (latchByte 6#3 (x ++ m ++ rr))
  | .snLatchNoiseVol d => .snBus (latchByte 7#3 d)
  | .snData x h => .snBus (0#1 ++ x ++ h)

/-- A row of the opcode table that has a bit pattern: `word &&& mask = pattern` selects it. -/
structure Row where
  mask : Byte
  pattern : Byte
deriving DecidableEq, Repr

/-- A word matches a row. -/
def Row.hits (r : Row) (w : Byte) : Bool := w &&& r.mask == r.pattern

/-- The byte a row's mask is laid on: the offset on the SID register space, the byte itself on the SN76489 port, none for
a record (a host operation has no bit pattern). -/
def Code.tableByte : Code → Option Byte
  | .record _ _ => none
  | .sidBus offset _ => some offset
  | .snBus b => some b

/-- The opcode table's mask and pattern of an instruction; none for a host operation, which has no bit pattern. -/
def Instr.row : Instr → Option Row
  | .sidCreate _ _ => none
  | .sidReset => none
  | .sidWrite _ _ => none
  | .sidRead _ => none
  | .sidAdvance _ => none
  | .sidRender => none
  | .snCreate _ => none
  | .snReset => none
  | .snWrite _ => none
  | .snGgWrite _ => none
  | .snSetMute _ _ => none
  | .snStep => none
  | .snStepStereo => none
  | .sidWrV0FreqLo _ => some ⟨0x1F#8, 0x00#8⟩
  | .sidWrV0FreqHi _ => some ⟨0x1F#8, 0x01#8⟩
  | .sidWrV0PwLo _ => some ⟨0x1F#8, 0x02#8⟩
  | .sidWrV0PwHi _ => some ⟨0x1F#8, 0x03#8⟩
  | .sidWrV0Control _ => some ⟨0x1F#8, 0x04#8⟩
  | .sidWrV0Ad _ => some ⟨0x1F#8, 0x05#8⟩
  | .sidWrV0Sr _ => some ⟨0x1F#8, 0x06#8⟩
  | .sidWrV1FreqLo _ => some ⟨0x1F#8, 0x07#8⟩
  | .sidWrV1FreqHi _ => some ⟨0x1F#8, 0x08#8⟩
  | .sidWrV1PwLo _ => some ⟨0x1F#8, 0x09#8⟩
  | .sidWrV1PwHi _ => some ⟨0x1F#8, 0x0A#8⟩
  | .sidWrV1Control _ => some ⟨0x1F#8, 0x0B#8⟩
  | .sidWrV1Ad _ => some ⟨0x1F#8, 0x0C#8⟩
  | .sidWrV1Sr _ => some ⟨0x1F#8, 0x0D#8⟩
  | .sidWrV2FreqLo _ => some ⟨0x1F#8, 0x0E#8⟩
  | .sidWrV2FreqHi _ => some ⟨0x1F#8, 0x0F#8⟩
  | .sidWrV2PwLo _ => some ⟨0x1F#8, 0x10#8⟩
  | .sidWrV2PwHi _ => some ⟨0x1F#8, 0x11#8⟩
  | .sidWrV2Control _ => some ⟨0x1F#8, 0x12#8⟩
  | .sidWrV2Ad _ => some ⟨0x1F#8, 0x13#8⟩
  | .sidWrV2Sr _ => some ⟨0x1F#8, 0x14#8⟩
  | .sidWrFcLo _ => some ⟨0x1F#8, 0x15#8⟩
  | .sidWrFcHi _ => some ⟨0x1F#8, 0x16#8⟩
  | .sidWrResFilt _ => some ⟨0x1F#8, 0x17#8⟩
  | .sidWrModeVol _ => some ⟨0x1F#8, 0x18#8⟩
  | .sidWrPotx _ => some ⟨0x1F#8, 0x19#8⟩
  | .sidWrPoty _ => some ⟨0x1F#8, 0x1A#8⟩
  | .sidWrOsc3 _ => some ⟨0x1F#8, 0x1B#8⟩
  | .sidWrEnv3 _ => some ⟨0x1F#8, 0x1C#8⟩
  | .snLatchTone0Freq _ => some ⟨0xF0#8, 0x80#8⟩
  | .snLatchTone0Vol _ => some ⟨0xF0#8, 0x90#8⟩
  | .snLatchTone1Freq _ => some ⟨0xF0#8, 0xA0#8⟩
  | .snLatchTone1Vol _ => some ⟨0xF0#8, 0xB0#8⟩
  | .snLatchTone2Freq _ => some ⟨0xF0#8, 0xC0#8⟩
  | .snLatchTone2Vol _ => some ⟨0xF0#8, 0xD0#8⟩
  | .snLatchNoiseCtrl _ _ _ => some ⟨0xF0#8, 0xE0#8⟩
  | .snLatchNoiseVol _ => some ⟨0xF0#8, 0xF0#8⟩
  | .snData _ _ => some ⟨0x80#8, 0x00#8⟩

/-- The agent that performs a host operation (30_encoding R80). -/
def HostOp.agent : HostOp → Agent
  | .sidCreate => .engine
  | .sidReset => .engine
  | .sidWrite => .hostW
  | .sidRead => .hostW
  | .sidAdvance => .engine
  | .sidRender => .engine
  | .snCreate => .engine
  | .snReset => .engine
  | .snWrite => .hostW
  | .snGgWrite => .hostW
  | .snSetMute => .hostW
  | .snStep => .engine
  | .snStepStereo => .engine

/-- The code laid out from an opcode-table word of `nbits` bits: the first byte is the row's byte, a second byte (0 where the
table gives the word no more bits) is a register write's data. The table's words do not say which space they belong to: a
first byte that is an offset of the bank is read as one, any other as an SN76489 byte (log 3). -/
def tableCode (nbits w : Nat) : Code :=
  let word := w % 2 ^ nbits
  if word % 256 ≤ 0x1C then .sidBus (BitVec.ofNat 8 word) (BitVec.ofNat 8 (word / 256)) else .snBus (BitVec.ofNat 8 word)

/-- The instruction the decoder reads from an opcode-table word. -/
def decodeTableWord (nbits w : Nat) : Option Instr :=
  match decode (tableCode nbits w) with
  | .ok i => some i
  | .error _ => none

end Sys2Proof
end

