-- ==== Sys2Proof/Config.lean ====
section
/-! DEFINITION. What the implementation fixes: the parameters of 00_scope R7 the device takes as arguments, and the OPEN
lookup tables, which no candidate fills and which stand as constants without a body (log 10, 11). -/

namespace Sys2Proof

/-- Which sums the voice-3 disable bit removes voice index 2 from (42 R203, 93 U11). -/
inductive Off3Scope where
  | full
  | unfilteredOnly
deriving DecidableEq, Repr

/-- The SID parameters of 00_scope R7 that have a candidate. The device takes them as arguments and no operation writes
them (00_scope R9, 10_state R43); the state carries them so that every statement holds for all their values. -/
structure SidParams where
  /-- `ADSR_PRESCALE[1..15]`; entry 0 is the constant 9 (40 R124). -/
  prescaleRest : List Nat
  /-- `ADSR_EXP_PERIOD[0..255]` (40 R126). -/
  expPeriod : List Nat
  /-- `VCR_K` (42 R207). -/
  vcrK : Int
  /-- `NOISE_SEED` (70 R321). -/
  noiseSeed : Nat
  /-- `PW_MIN_SHIFT` (41 R162). -/
  pwMinShift : Nat
  /-- `TRAP_MIN_STEP` (41 R163). -/
  trapMinStep : Nat
  /-- `SAW_K` (41 R171). -/
  sawK : Nat
  /-- `SID_CHANNEL_COUNT` (42 R210). -/
  channelCount : Nat
  /-- `OFF3_SCOPE` (42 R203). -/
  off3Scope : Off3Scope
deriving DecidableEq, Repr

/-- `ENV_DAC[MOS6581]`, entries 0..255 (42 R201, 91 N5). -/
opaque Config.envDac6581 : Nat → BitVec 8

/-- `COMB_PT`, entries 0..0xFFFF (41 R165, R167). -/
opaque Config.combPT : ChipModel → Nat → BitVec 16

/-- `COMB_PS`, entries 0..0xFFFF (41 R165, R168). -/
opaque Config.combPS : ChipModel → Nat → BitVec 16

/-- `COMB_PTS`, entries 0..0xFFFF (41 R165, R169). -/
opaque Config.combPTS : ChipModel → Nat → BitVec 16

/-- `COMB_TS`, entries 0..0xFFFF (41 R172). -/
opaque Config.combTS : ChipModel → Nat → BitVec 16

/-- `CUTOFF_MUL`, integers (42 R206). -/
opaque Config.cutoffMul : ChipModel → Nat → Int

/-- `RESONANCE`, integers (42 R206). -/
opaque Config.resonance : ChipModel → Nat → Int

end Sys2Proof
end

