-- ==== Sys2Proof/Machine/Params.lean ====
section
/-! DEFINITION. The candidate values of 00_scope R7, which the spec's derived vectors assume (95 section 0). They are the
reset value of the state's parameters and nothing more: no statement rests on them (log 10). -/

namespace Sys2Proof.Machine

/-- Candidate `ADSR_PRESCALE[1..15]` (40 R124). PRESUMED, log 10. -/
def candidatePrescaleRest : List Nat :=
  [32, 63, 95, 149, 220, 267, 313, 392, 977, 1954, 3126, 3907, 11720, 19532, 31251]

/-- Candidate `ADSR_EXP_PERIOD`: 1 at level 0, 30 at 1..6, 16 at 7..14, 8 at 15..26, 4 at 27..54, 2 at 55..93, 1 at 94..255
(40 R126). PRESUMED, log 10. -/
def candidateExpPeriod : List Nat :=
  List.replicate 1 1 ++ List.replicate 6 30 ++ List.replicate 8 16 ++ List.replicate 12 8 ++ List.replicate 28 4
    ++ List.replicate 39 2 ++ List.replicate 162 1

/-- The candidate parameters of 00_scope R7; `OFF3_SCOPE` is the spec's decision FULL (D26). PRESUMED, log 10. -/
def candidateParams : SidParams where
  prescaleRest := candidatePrescaleRest
  expPeriod := candidateExpPeriod
  vcrK := 105
  noiseSeed := 0x7FFFF8
  pwMinShift := 13
  trapMinStep := 4096
  sawK := 288
  channelCount := 4
  off3Scope := .full

/-- Candidate `SN_VOL_TABLE` (00_scope R7). PRESUMED, log 9. -/
def candidateVolTable : List Nat :=
  [0xFF, 0xCB, 0xA1, 0x80, 0x65, 0x50, 0x40, 0x33, 0x28, 0x20, 0x19, 0x14, 0x10, 0x0C, 0x0A, 0x00]

end Sys2Proof.Machine
end

