-- ==== Sys2Proof/Machine/Types.lean ====
section
/-! DEFINITION. The parts of the state (10_state): the register bank, the SID voices and chip, the SN76489 generator. -/

namespace Sys2Proof.Machine

/-- Three of a kind: the SID voices (00_scope R14) and the SN76489 tone channels (10_state R33). -/
structure Tri (α : Type) where
  a0 : α
  a1 : α
  a2 : α
deriving DecidableEq, Repr

/-- The SID register bank as (offset, byte) pairs: offsets strictly rising, no pair with the byte an unlisted offset reads
as, which is 0 (10_state R20; log 19). -/
abbrev Bank := List Host.Cell

/-- A SID voice's runtime state (10_state R22 to R30). -/
structure Voice where
  gate : Bool
  atk : Bool
  ds : Bool
  holdn : Bool
  rc : Nat
  env : Nat
  exp : Nat
  acc : Nat
  pacc : Nat
  lfsr : Nat
  pwav : Nat
  pblend : Nat
deriving DecidableEq, Repr

/-- The constant configuration of a SID instance (10_state R32). -/
structure SidConfig where
  model : ChipModel
  sampleRate : Nat
  cpuHz : Nat
  clockRatio : Nat
  attenuation : Nat
deriving DecidableEq, Repr

/-- The SID instance: bank, voices, chip-wide state (10_state R20, R22 to R31) and configuration (R32). -/
structure Sid where
  reg : Bank
  voices : Tri Voice
  syncRise : Bool
  ringMSB : Nat
  pLP : Int
  pBP : Int
  pVol : Int
  cfg : SidConfig
deriving DecidableEq, Repr

/-- An SN76489 tone channel with its running output (10_state R33, R38). -/
structure Tone where
  freq : Nat
  vol : Nat
  edge : Bool
  mute : Bool
  cnt : Nat
  chout : Int
deriving DecidableEq, Repr

/-- The SN76489 noise channel with its running output, `S.chout[3]` (10_state R34, R38). -/
structure Noise where
  vol : Nat
  mode : Bool
  rate : Nat
  seed : Nat
  cnt : Nat
  chout : Int
deriving DecidableEq, Repr

/-- The constant configuration of an SN76489 instance (10_state R39). -/
structure SnConfig where
  quality : Bool
  clock : Nat
  sampleRate : Nat
  baseIncr : Nat
  volTable : List Nat
  smoothShift : Nat
  whiteTap : Nat
  noiseSeed : Nat
  frefMult : Nat
deriving DecidableEq, Repr

/-- The SN76489 instance (10_state R33 to R39). -/
structure Sn where
  tones : Tri Tone
  noise : Noise
  adr : Nat
  bacc : Nat
  stime : Nat
  stereo : Byte
  cfg : SnConfig
deriving DecidableEq, Repr

end Sys2Proof.Machine
end

