-- ==== Sys2Proof/Machine/Resets.lean ====
section
/-! DEFINITION. The values a creation and a reset leave (70 R320 to R324), and the configuration in force at the machine's
reset (log 9). -/

namespace Sys2Proof.Machine

/-- A voice after creation or reset, with `NOISE_SEED = seed` (70 R321). -/
def Voice.reset (seed : Nat) : Voice where
  gate := false
  atk := false
  ds := false
  holdn := false
  rc := 0
  env := 0
  exp := 0
  acc := 0
  pacc := 0
  lfsr := seed
  pwav := 0
  pblend := 0

/-- The SID configuration in force at reset. DESIGN CHOICE, log 9. -/
def SidConfig.reset : SidConfig where
  model := .mos8580
  sampleRate := 44100
  cpuHz := 985248
  clockRatio := 357
  attenuation := 0

/-- A SID instance after creation (70 R320): bank 0, runtime state reset (R321). -/
def Sid.created (seed : Nat) (cfg : SidConfig) : Sid where
  reg := []
  voices := ⟨Voice.reset seed, Voice.reset seed, Voice.reset seed⟩
  syncRise := false
  ringMSB := 0
  pLP := 0
  pBP := 0
  pVol := 0
  cfg := cfg

/-- A tone channel after creation or reset (70 R323). -/
def Tone.reset : Tone where
  freq := 0
  vol := 15
  edge := false
  mute := false
  cnt := 0
  chout := 0

/-- The noise channel after creation or reset, with `SN_NOISE_SEED = seed` (70 R323). -/
def Noise.reset (seed : Nat) : Noise where
  vol := 15
  mode := false
  rate := 0
  seed := seed
  cnt := 0
  chout := 0

/-- The SN76489 configuration in force at reset. DESIGN CHOICE, log 9. -/
def SnConfig.reset : SnConfig where
  quality := false
  clock := 3579545
  sampleRate := 44100
  baseIncr := 85111677
  volTable := candidateVolTable
  smoothShift := 1
  whiteTap := 0x0009
  noiseSeed := 0x8000
  frefMult := 2

/-- An SN76489 instance after creation (70 R322, R323). -/
def Sn.created (cfg : SnConfig) : Sn where
  tones := ⟨Tone.reset, Tone.reset, Tone.reset⟩
  noise := Noise.reset cfg.noiseSeed
  adr := 0
  bacc := 0
  stime := 0
  stereo := 0xFF#8
  cfg := cfg

end Sys2Proof.Machine
end

