-- ==== Sys2Proof/Machine/State.lean ====
section
/-! DEFINITION. The whole state of the device (10_state), the three outcomes' reasons, and the state after reset. -/

namespace Sys2Proof.Machine

/-- What an operation returns (30_encoding R80, column result). -/
inductive Output where
  /-- The byte of SID_READ. -/
  | byte (d : Byte)
  /-- The sample of SID_RENDER or SN_STEP. -/
  | sample (x : Int)
  /-- The pair (left, right) of SN_STEP_STEREO. -/
  | stereo (left right : Int)
deriving DecidableEq, Repr

/-- The machine: one SID and one SN76489 instance (log 13), and the model's own fields: the parameters of 00_scope R7
(log 10), the operations still to come and the index of the next (10_state R41, log 1), what HOST_W does at the inner
interleaving points to come (20_memory R66, log 6), and the results returned, newest first (log 8). -/
structure State where
  sid : Sid
  sn : Sn
  params : SidParams
  queue : List Code
  pos : Nat
  arrivals : List (List HostAct)
  outputs : List Output
deriving DecidableEq, Repr

/-- The name of the value that left the range (60 R302). -/
inductive RangeName where
  | pBP
  | pLP
  | out
deriving DecidableEq, Repr

/-- The spec's one fault (60 R302). -/
inductive Fault where
  /-- `NumericRange`, raised by SID_RENDER when a filter state value or the sample leaves -2^31..2^31-1 (42 R213). It
  carries the name of the value and the state R213 says is left. Safe: the machine stops (log 14, 15). -/
  | numericRange (info : RangeName) (left : State)
deriving DecidableEq, Repr

/-- Why an operation is refused (60 R303). A refused operation changes no state. -/
inductive Refusal where
  /-- An operand out of range: SID_WRITE, SID_READ, SID_ADVANCE, SN_WRITE, SN_GG_WRITE, SN_SET_MUTE, and a register write
  at an offset the bank does not have. Safe: the spec refuses it (60 R303). -/
  | badOperand
  /-- A model, host context or configuration out of range: SID_CREATE, SN_CREATE. Safe: the spec refuses it (60 R303). -/
  | badConfig
  /-- A record whose operand count is not its operation's: no operation of 30_encoding R80. Raised by the decoder. Safe:
  the record has no meaning (log 21). -/
  | notAnOperation
  /-- An instruction without a meaning yet; raised by exec's arm only. Safe. -/
  | notModelled (mnemonic : String)
deriving DecidableEq, Repr

/-- The outcome of an operation. -/
abbrev Res := Host.Outcome State Fault Refusal

/-- The machine right after reset: both instances just created (70 R320, R322, R324), no operation queued (log 1, 9). -/
def State.reset : State where
  sid := Sid.created candidateParams.noiseSeed SidConfig.reset
  sn := Sn.created SnConfig.reset
  params := candidateParams
  queue := []
  pos := 0
  arrivals := []
  outputs := []

end Sys2Proof.Machine
end

