-- ==== Sys2Proof/Machine/Ops.lean ====
section
/-! DEFINITION. The shared operations: the register bank, the three-fold fields, refusing and faulting, returning a result,
the SN76489 write port, and the HOST_W operations at an inner interleaving point. -/

namespace Sys2Proof.Machine

-- ---- the register bank (10_state R20; 20_memory R62 to R64)

/-- What an offset with no pair in the bank reads as: its value after creation (10_state R20). -/
def unlistedByte : Byte := 0#8

/-- The byte at an offset. -/
def readBank : Bank → Nat → Byte
  | [], _ => unlistedByte
  | (k, b) :: rest, a => if k = a then b else readBank rest a

/-- A byte stored at an offset, keeping the canonical form. -/
def writeBank : Bank → Nat → Byte → Bank
  | [], a, d => if d = unlistedByte then [] else [(a, d)]
  | (k, b) :: rest, a, d =>
    if a < k then (if d = unlistedByte then (k, b) :: rest else (a, d) :: (k, b) :: rest)
    else if a = k then (if d = unlistedByte then rest else (a, d) :: rest)
    else (k, b) :: writeBank rest a d

/-- The canonical form from offset `lo` on: offsets strictly rising and below 29, no pair with the unlisted byte. -/
def bankWfFrom : Nat → Bank → Bool
  | _, [] => true
  | lo, (k, b) :: rest => decide (lo ≤ k) && decide (k < 29) && decide (b ≠ unlistedByte) && bankWfFrom (k + 1) rest

/-- The bank is in its canonical form (log 19). -/
def bankWf (m : Bank) : Bool := bankWfFrom 0 m

/-- `reg[a]` of the machine. -/
def readReg (s : State) (a : Nat) : Byte := readBank s.sid.reg a

/-- `reg[a] <- d` (20_memory R62). -/
def storeReg (a : Nat) (d : Byte) (s : State) : State :=
  { s with sid := { s.sid with reg := writeBank s.sid.reg a d } }

/-- `reg[a]` as a natural. -/
def regNat (m : Bank) (a : Nat) : Nat := (readBank m a).toNat

-- ---- three-fold fields

/-- Field `i`. -/
def triGet {α : Type} (t : Tri α) : Ix3 → α
  | .i0 => t.a0
  | .i1 => t.a1
  | .i2 => t.a2

/-- Field `i` replaced. -/
def triSet {α : Type} (t : Tri α) (i : Ix3) (x : α) : Tri α :=
  match i with
  | .i0 => { t with a0 := x }
  | .i1 => { t with a1 := x }
  | .i2 => { t with a2 := x }

/-- Every field mapped. -/
def triMap {α β : Type} (f : α → β) (t : Tri α) : Tri β := ⟨f t.a0, f t.a1, f t.a2⟩

-- ---- ending an operation

/-- The refusal of an operation: no state changes, no result (60 R303). -/
def refuse (r : Refusal) : Res := .refused r

/-- The code of a refusal (60 R303); none for a reason that is not the spec's. -/
def refusalCode : Refusal → Option Nat
  | .badOperand => some 1
  | .badConfig => some 2
  | .notAnOperation => none
  | _ => none

/-- The model fault (60 R302): the run ends, with the state 42 R213 says is left. -/
def raiseNumericRange (info : RangeName) (left : State) : Res := .fault (.numericRange info left)

/-- The code of the fault (60 R302). -/
def faultCode : Fault → Nat
  | .numericRange _ _ => 3

/-- A result handed to the caller (30_encoding R80; log 8). -/
def returnOutput (o : Output) (s : State) : State := { s with outputs := o :: s.outputs }

/-- SID_READ's result (20_memory R63). -/
def returnByte (d : Byte) (s : State) : State := returnOutput (.byte d) s

-- ---- the SN76489 write port (43 R240 to R249)

/-- A tone channel of the generator replaced. -/
def setTone (i : Ix3) (t : Tone) (g : Sn) : Sn := { g with tones := triSet g.tones i t }

/-- The latched address (43 R243). -/
def latch (adr : Nat) (g : Sn) : Sn := { g with adr := adr }

/-- A latch byte's data for a tone divider: bits 3..0 replaced (43 R241). -/
def setDividerLow (i : Ix3) (d : Nat) (g : Sn) : Sn :=
  setTone i { triGet g.tones i with freq := ((triGet g.tones i).freq &&& 0x3F0) ||| d } g

/-- A data byte's bits for a tone divider: bits 9..4 replaced (43 R247). -/
def setDividerHigh (i : Ix3) (h : Nat) (g : Sn) : Sn :=
  setTone i { triGet g.tones i with freq := (h <<< 4) ||| ((triGet g.tones i).freq &&& 0xF) } g

/-- A tone volume (43 R242). -/
def setToneVolume (i : Ix3) (d : Nat) (g : Sn) : Sn := setTone i { triGet g.tones i with vol := d } g

/-- Noise control: mode, rate, and the reseed (43 R245). -/
def setNoiseControl (mode : Bool) (rate : Nat) (g : Sn) : Sn :=
  { g with noise := { g.noise with mode := mode, rate := rate, seed := g.cfg.noiseSeed } }

/-- Noise volume (43 R246). -/
def setNoiseVolume (d : Nat) (g : Sn) : Sn := { g with noise := { g.noise with vol := d } }

/-- The tone channel whose divider a latch address selects (30_encoding R83): 0, 2 and 4; none for the others. -/
def dividerOf : Nat → Option Ix3
  | 0 => some .i0
  | 2 => some .i1
  | 4 => some .i2
  | _ => none

/-- The tone channel whose volume a latch address selects (30_encoding R83): 1, 3 and 5; none for the others. -/
def volumeOf : Nat → Option Ix3
  | 1 => some .i0
  | 3 => some .i1
  | 5 => some .i2
  | _ => none

/-- A latch byte `1aaadddd`: the latch first, then its data (43 R240 to R246). -/
def latchWrite (aaa : Nat) (d : Nat) (g : Sn) : Sn :=
  match dividerOf aaa with
  | some i => setDividerLow i d (latch aaa g)
  | none =>
    match volumeOf aaa with
    | some i => setToneVolume i d (latch aaa g)
    | none =>
      if aaa = 6 then setNoiseControl (bit d 2) (slice d 1 0) (latch aaa g) else setNoiseVolume d (latch aaa g)

/-- A data byte with high bits `h`: the latched tone divider, or nothing (43 R247). -/
def dataWrite (h : Nat) (g : Sn) : Sn :=
  match dividerOf g.adr with
  | some i => setDividerHigh i h g
  | none => g

/-- A byte on the data port (43 R240). -/
def snByte (b : Nat) (g : Sn) : Sn :=
  if bit b 7 then latchWrite (slice b 6 4) (slice b 3 0) g else dataWrite (slice b 5 0) g

/-- The stereo mask (43 R248). -/
def setStereo (b : Byte) (g : Sn) : Sn := { g with stereo := b }

/-- A tone channel's mute flag (43 R249). -/
def setMute (i : Ix3) (f : Bool) (g : Sn) : Sn := setTone i { triGet g.tones i with mute := f } g

/-- The SN76489 instance of the machine changed. -/
def onSn (f : Sn → Sn) (s : State) : State := { s with sn := f s.sn }

-- ---- HOST_W between two sub-steps (20_memory R66)

/-- One HOST_W operation, an atomic step (20_memory R66 item 1). -/
def applyAct : HostAct → State → State
  | .sidWrite a d, s => storeReg a.val d s
  | .sidRead a, s => returnByte (readReg s a.val) s
  | .snWrite b, s => onSn (snByte b.toNat) s
  | .snGgWrite b, s => onSn (setStereo b) s
  | .snSetMute i f, s => onSn (setMute i f) s

/-- HOST_W operations in program order (20_memory R70). -/
def applyActs : List HostAct → State → State
  | [], s => s
  | x :: rest, s => applyActs rest (applyAct x s)

/-- An inner interleaving point: the next arrivals are performed; with none left, nothing happens (20_memory R66; log 6).
DESIGN CHOICE: an operation performed here does not move the program position, which counts the operations taken from the
queue (10_state R41; log 28). -/
def hostPoint (s : State) : State :=
  match s.arrivals with
  | [] => s
  | acts :: rest => applyActs acts { s with arrivals := rest }

end Sys2Proof.Machine
end

