-- ==== Sys2Proof/Machine/Operands.lean ====
section
/-! DEFINITION. The register fields of the SID map (10_state R44 to R53; 30_encoding R87), each read from the bank. -/

namespace Sys2Proof.Machine

/-- The offset of voice `v`'s register block (10_state R44). -/
def voiceBase (v : Ix3) : Nat := 7 * num v

/-- `F(v)`, 16 bits, low byte first (10_state R45, 20_memory R64). -/
def freqReg (m : Bank) (v : Ix3) : Nat := regNat m (voiceBase v + 1) * 256 + regNat m (voiceBase v)

/-- `FREQ_HI`, the pitch of the blend (10_state R45). -/
def freqHi (m : Bank) (v : Ix3) : Nat := regNat m (voiceBase v + 1)

/-- `PWREG(v)`, 12 bits (10_state R46). -/
def pwReg (m : Bank) (v : Ix3) : Nat := slice (regNat m (voiceBase v + 3)) 3 0 * 256 + regNat m (voiceBase v + 2)

/-- `CONTROL` (10_state R47). -/
def controlReg (m : Bank) (v : Ix3) : Nat := regNat m (voiceBase v + 4)

/-- `AD` (10_state R48). -/
def adReg (m : Bank) (v : Ix3) : Nat := regNat m (voiceBase v + 5)

/-- `SR` (10_state R49). -/
def srReg (m : Bank) (v : Ix3) : Nat := regNat m (voiceBase v + 6)

/-- `WF`, bits 7..4 of CONTROL (10_state R47). -/
def waveSelect (ctl : Nat) : Nat := slice ctl 7 4

/-- `TEST` (10_state R47). -/
def testBit (ctl : Nat) : Bool := bit ctl 3

/-- `RING` (10_state R47). -/
def ringBit (ctl : Nat) : Bool := bit ctl 2

/-- `SYNC` (10_state R47). -/
def syncBit (ctl : Nat) : Bool := bit ctl 1

/-- `GATE` (10_state R47). -/
def gateBit (ctl : Nat) : Bool := bit ctl 0

/-- The attack rate nibble (10_state R48). -/
def attackRate (ad : Nat) : Nat := slice ad 7 4

/-- The decay rate nibble (10_state R48). -/
def decayRate (ad : Nat) : Nat := slice ad 3 0

/-- The release rate nibble (10_state R49). -/
def releaseRate (sr : Nat) : Nat := slice sr 3 0

/-- The sustain level, 17 times the nibble (10_state R49, 40 R130). -/
def sustainLevel (sr : Nat) : Nat := 17 * slice sr 7 4

/-- `FC`, the 11-bit cutoff (10_state R50, R51). -/
def cutoff (m : Bank) : Nat := regNat m 0x16 * 8 + slice (regNat m 0x15) 2 0

/-- `RES`, the resonance nibble (10_state R52). -/
def resonanceNibble (m : Bank) : Nat := slice (regNat m 0x17) 7 4

/-- Voice `v` is routed through the filter (10_state R52). -/
def filterEnabled (m : Bank) (v : Ix3) : Bool := bit (regNat m 0x17) (num v)

/-- `3OFF` (10_state R53). -/
def voice3Off (m : Bank) : Bool := bit (regNat m 0x18) 7

/-- `HP` (10_state R53). -/
def highpassOn (m : Bank) : Bool := bit (regNat m 0x18) 6

/-- `BP` (10_state R53). -/
def bandpassOn (m : Bank) : Bool := bit (regNat m 0x18) 5

/-- `LP` (10_state R53). -/
def lowpassOn (m : Bank) : Bool := bit (regNat m 0x18) 4

/-- `VOL`, the master volume nibble (10_state R53). -/
def volume (m : Bank) : Nat := slice (regNat m 0x18) 3 0

/-- `ADSR_PRESCALE[r]`: 9 at entry 0, the parameter's entries above it (40 R124). -/
def prescale (P : SidParams) (r : Nat) : Nat := if r = 0 then 9 else P.prescaleRest.getD (r - 1) 1

/-- `ADSR_EXP_PERIOD[level]` (40 R126). -/
def expPeriod (P : SidParams) (level : Nat) : Nat := P.expPeriod.getD level 1

/-- `ENV_DAC[MODEL][level]`: the identity on the 8580, the OPEN table on the 6581 (42 R201). -/
def envDac (model : ChipModel) (level : Nat) : Nat :=
  match model with
  | .mos8580 => level
  | .mos6581 => (Config.envDac6581 level).toNat

/-- `SN_VOL_TABLE[k]` (43 R256). -/
def volEntry (cfg : SnConfig) (k : Nat) : Int := ((cfg.volTable.getD k 0 : Nat) : Int)

end Sys2Proof.Machine
end

