-- ==== Sys2Proof/Machine/Flags.lean ====
section
/-! DEFINITION. The single-bit status of the device (10_state R42): the ADSR bits and the segment they give, the MSB-rise
flag and the ring source, the tone edge and the noise output. -/

namespace Sys2Proof.Machine

/-- The segment of a voice (10_state R23). -/
inductive Segment where
  | attack
  | decaySustain
  | release
deriving DecidableEq, Repr

/-- The segment the ADSR bits give (10_state R23). -/
def voiceSegment (V : Voice) : Segment := if V.atk then .attack else if V.ds then .decaySustain else .release

/-- The gate edges: rising sets all four ADSR bits, falling clears gate, atk and ds and keeps holdn (40 R121). -/
def gateEdges (ctl : Nat) (V : Voice) : Voice :=
  if V.gate = true ∧ gateBit ctl = false then { V with gate := false, atk := false, ds := false }
  else if V.gate = false ∧ gateBit ctl = true then { V with gate := true, atk := true, ds := true, holdn := true }
  else V

/-- Bit 27 of a phase accumulator (00_scope R16, MSB). -/
def phaseMsb (acc : Nat) : Bool := bit acc 27

/-- `C.syncRise`: bit 27 rose since the voice's previous render (41 R154). -/
def msbRise (acc pacc : Nat) : Bool := phaseMsb acc && !phaseMsb pacc

/-- The voice's ring source, its MSB in place (41 R154). -/
def msbInPlace (acc : Nat) : Nat := bitNat (phaseMsb acc) * 2 ^ 27

/-- Whether the noise LFSR is clocked (41 R157). -/
def noiseClocked (acc pacc step : Nat) : Bool := xor (bit acc 24) (bit pacc 24) || decide (2 ^ 24 ≤ step)

/-- The noise channel is high (43 R255). -/
def noiseHigh (seed : Nat) : Bool := bit seed 0

/-- The frequency-reference flag, a derived value (10_state R34). -/
def noiseUsesTone2 (n : Noise) : Bool := decide (n.rate = 3)

end Sys2Proof.Machine
end

