-- ==== Sys2Proof/Machine/Waveform.lean ====
section
/-! DEFINITION. `renderVoice`: the phase accumulator, sync and ring, and the waveform selector (41 R150 to R175). -/

namespace Sys2Proof.Machine

/-- The phase step (41 R152). -/
def phaseStep (freq clockRatio : Nat) : Nat := freq * clockRatio

/-- The accumulator update (41 R153). -/
def nextAcc (acc step : Nat) (test sync syncRise : Bool) : Nat :=
  if test || (sync && syncRise) then 0 else (acc + step) % 2 ^ 28

/-- The LFSR step, with taps 22 and 17 and the TEST fill (41 R158). -/
def lfsrStep (l : Nat) (test : Bool) : Nat := l * 2 % 2 ^ 23 + bitNat (xor (bit l 22) (bit l 17) || test)

/-- `NOISE_OUT` (41 R159). -/
def noiseOut (l : Nat) : Nat :=
  bitNat (bit l 20) * 2 ^ 15 + bitNat (bit l 18) * 2 ^ 14 + bitNat (bit l 14) * 2 ^ 13 + bitNat (bit l 11) * 2 ^ 12
    + bitNat (bit l 9) * 2 ^ 11 + bitNat (bit l 5) * 2 ^ 10 + bitNat (bit l 2) * 2 ^ 9 + bitNat (bit l 0) * 2 ^ 8

/-- The corrected pulse width, an integer (41 R161, R162; log 26). -/
def pulseWidth (P : SidParams) (pwreg step : Nat) : Int :=
  let t : Int := ((step >>> P.pwMinShift : Nat) : Int)
  let pw : Int := (pwreg : Int) * 16
  let raised := if 0 < pw ∧ pw < t then t else pw
  if raised > 0xFFFF - t then 0xFFFF - t else raised

/-- The ramp steepness of the trapezoid; the step 0 takes the undivided branch (41 R163; log 25). -/
def steepness (P : SidParams) (step : Nat) : Int :=
  if step ≥ P.trapMinStep then ((0xFFFFFFF / step : Nat) : Int) else 0xFFFF

/-- `TRAPEZOID` (41 R163). -/
def trapezoid (P : SidParams) (ph : Nat) (pw : Int) (step : Nat) (test : Bool) : Int :=
  let st := steepness P step
  if test then 0xFFFF
  else if (ph : Int) < pw then max (min ((0xFFFF - pw) * st) 0xFFFF - (pw - ph) * st) 0
  else
    let x := (0xFFFF - ph) * st - min (pw * st) 0xFFFF
    if x ≥ 0 then 0xFFFF else 0x10000 + x

/-- `Filt`, the blend coefficient (41 R166). -/
def blendCoeff (freqHi : Nat) : Nat := 0x7777 + 0x8888 / max freqHi 1

/-- `BLEND`: the new blended sample from the table value and the previous one (41 R166). -/
def blend (freqHi tv pblend : Nat) : Nat := (tv * blendCoeff freqHi + pblend * (0xFFFF - blendCoeff freqHi)) >>> 16

/-- `SAW` (41 R171). -/
def saw (P : SidParams) (w0 step : Nat) : Nat :=
  let k := max 1 ((step >>> 4) / P.sawK)
  let y := w0 + ((w0 * k) >>> 16)
  if y > 0xFFFF then 0xFFFF - (y - 0x10000) * 2 ^ 16 / k else y

/-- The triangle: the ring-modulated phase reflected about its midpoint (41 R173). -/
def triangle (acc rsrc : Nat) : Nat :=
  let x := acc ^^^ rsrc
  (x ^^^ (if bit x 27 then 0xFFFFFFF else 0)) >>> 11

/-- What the waveform selector leaves: the value, the LFSR and the blended sample. -/
structure Wave where
  w : Nat
  lfsr : Nat
  pblend : Nat
deriving DecidableEq, Repr

/-- What one waveform computation reads (41 R150). -/
structure WaveIn where
  model : ChipModel
  wf : Nat
  test : Bool
  acc : Nat
  pacc : Nat
  step : Nat
  rsrc : Nat
  pwreg : Nat
  freqHi : Nat
  lfsr : Nat
  pwav : Nat
  pblend : Nat
deriving DecidableEq, Repr

/-- The noise branch (41 R157 to R160). -/
def noiseWave (x : WaveIn) : Wave :=
  let l := if noiseClocked x.acc x.pacc x.step then lfsrStep x.lfsr x.test else x.lfsr
  ⟨if slice x.wf 2 0 ≠ 0 then 0 else noiseOut l, l, x.pblend⟩

/-- A blended table value (41 R166). -/
def blendWave (x : WaveIn) (tv : Nat) : Wave :=
  ⟨blend x.freqHi tv x.pblend, x.lfsr, blend x.freqHi tv x.pblend⟩

/-- The pulse branch (41 R161 to R169). -/
def pulseWave (P : SidParams) (x : WaveIn) : Wave :=
  let pw := pulseWidth P x.pwreg x.step
  let ph := x.acc >>> 12
  if x.wf = 0b0100 then ⟨(trapezoid P ph pw x.step x.test).toNat, x.lfsr, x.pblend⟩
  else if ¬((ph : Int) ≥ pw ∨ x.test = true) then ⟨0, x.lfsr, x.pblend⟩
  else if x.wf = 0b0111 then blendWave x (Config.combPTS x.model (x.acc >>> 16)).toNat
  else if x.wf = 0b0101 then blendWave x (Config.combPT x.model ((x.acc ^^^ x.rsrc) >>> 16)).toNat
  else blendWave x (Config.combPS x.model (x.acc >>> 16)).toNat

/-- The sawtooth branch (41 R170 to R172). -/
def sawWave (P : SidParams) (x : WaveIn) : Wave :=
  if bit x.wf 0 then ⟨(Config.combTS x.model (x.acc >>> 16)).toNat, x.lfsr, x.pblend⟩
  else ⟨saw P (x.acc >>> 12) x.step, x.lfsr, x.pblend⟩

/-- The waveform selector: the branch of the highest set bit; selector 0 holds the previous output (41 R155, R174). -/
def selectWave (P : SidParams) (x : WaveIn) : Wave :=
  if bit x.wf 3 then noiseWave x
  else if bit x.wf 2 then pulseWave P x
  else if bit x.wf 1 then sawWave P x
  else if bit x.wf 0 then ⟨triangle x.acc x.rsrc, x.lfsr, x.pblend⟩
  else ⟨x.pwav, x.lfsr, x.pblend⟩

/-- What a voice's sub-step leaves: the voice, the coupling outputs and the waveform value. -/
structure VoiceOut where
  voice : Voice
  syncRise : Bool
  ringMSB : Nat
  w : Nat
deriving DecidableEq, Repr

/-- The waveform's inputs after the accumulator update (41 R150). -/
def waveIn (model : ChipModel) (clockRatio : Nat) (m : Bank) (v : Ix3) (V : Voice) (syncRise : Bool) (ringMSB : Nat) :
    WaveIn :=
  let ctl := controlReg m v
  let step := phaseStep (freqReg m v) clockRatio
  { model := model
    wf := waveSelect ctl
    test := testBit ctl
    acc := nextAcc V.acc step (testBit ctl) (syncBit ctl) syncRise
    pacc := V.pacc
    step := step
    rsrc := if ringBit ctl then ringMSB else 0
    pwreg := pwReg m v
    freqHi := freqHi m v
    lfsr := V.lfsr
    pwav := V.pwav
    pblend := V.pblend }

/-- `renderVoice(v)` (41 R150, R174, R175): the previous voice's coupling values come in, this voice's go out. -/
def renderVoice (P : SidParams) (model : ChipModel) (clockRatio : Nat) (m : Bank) (v : Ix3) (V : Voice) (syncRise : Bool)
    (ringMSB : Nat) : VoiceOut :=
  let x := waveIn model clockRatio m v V syncRise ringMSB
  let r := selectWave P x
  { voice :=
      { V with
        acc := x.acc
        pacc := x.acc
        lfsr := r.lfsr
        pblend := r.pblend
        pwav := if x.wf = 0 then V.pwav else r.w }
    syncRise := msbRise x.acc V.pacc
    ringMSB := msbInPlace x.acc
    w := r.w }

end Sys2Proof.Machine
end

