-- ==== Sys2Proof/Machine/FilterMixer.lean ====
section
/-! DEFINITION. SID_RENDER: envelope scaling, routing, the state-variable filter, the output and the read-backs
(42 R200 to R215). -/

namespace Sys2Proof.Machine

/-- A voice's contribution: its centred waveform times its envelope DAC value (42 R201). -/
def contribution (w dac : Nat) : Int := asr (((w : Int) - 0x8000) * (dac : Int)) 8

/-- The two sums of one render (42 R200). -/
structure Mix where
  filtIn : Int
  unfilt : Int
deriving DecidableEq, Repr

/-- `route` (42 R202, R203). -/
def route (scope : Off3Scope) (m : Bank) (v : Ix3) (contrib : Int) (x : Mix) : Mix :=
  let off := decide (v = .i2) && voice3Off m
  if filterEnabled m v then
    if off && decide (scope = .full) then x else { x with filtIn := x.filtIn + contrib }
  else
    if off then x else { x with unfilt := x.unfilt + contrib }

/-- A render between two sub-steps: the machine, the sums so far, and the last voice's waveform value. -/
structure Rendering where
  st : State
  mix : Mix
  w : Nat
deriving DecidableEq, Repr

/-- A voice sub-step of SID_RENDER: `renderVoice`, the scaling and the routing (20_memory R66 item 3, 42 R212). -/
def renderSub (v : Ix3) (r : Rendering) : Rendering :=
  let s := r.st
  let c := s.sid
  let o := renderVoice s.params c.cfg.model c.cfg.clockRatio c.reg v (triGet c.voices v) c.syncRise c.ringMSB
  { st := { s with sid := { c with voices := triSet c.voices v o.voice, syncRise := o.syncRise, ringMSB := o.ringMSB } }
    mix := route s.params.off3Scope c.reg v (contribution o.w (envDac c.cfg.model o.voice.env)) r.mix
    w := o.w }

/-- An inner interleaving point of a render (20_memory R66 item 3). -/
def renderPoint (r : Rendering) : Rendering := { r with st := hostPoint r.st }

/-- The three voice sub-steps, each followed by an interleaving point (42 R212). -/
def renderVoices (s : State) : Rendering :=
  renderPoint (renderSub .i2 (renderPoint (renderSub .i1 (renderPoint (renderSub .i0 ⟨s, ⟨0, 0⟩, 0⟩)))))

/-- `cut`: the 6581 feeds the filter input back into its cutoff index (42 R206, R207). -/
def cutCoeff (P : SidParams) (model : ChipModel) (fc : Nat) (filtIn : Int) : Int :=
  match model with
  | .mos8580 => Config.cutoffMul .mos8580 fc
  | .mos6581 => Config.cutoffMul .mos6581 (clamp ((fc : Int) + asr (filtIn * P.vcrK) 16) 0 2047).toNat

/-- `x * k` for an entry `k` of an OPEN table: where `x` is 0 the product is 0 whatever the entry is, and evaluation need not
look at it. -/
def timesEntry (x k : Int) : Int := if x = 0 then 0 else x * k

/-- The filter taps. -/
structure Taps where
  hp : Int
  bp : Int
  lp : Int
deriving DecidableEq, Repr

/-- The integrators (42 R208). -/
def integrate (filtIn pBP pLP cut res : Int) : Taps :=
  let hp := filtIn + asr (timesEntry pBP res) 12 + pLP
  let bp := pBP - asr (timesEntry hp cut) 12
  let lp := pLP + asr (timesEntry bp cut) 12
  ⟨hp, bp, lp⟩

/-- The filter output: the enabled taps, highpass and bandpass negated (42 R209). -/
def filterOut (m : Bank) (t : Taps) : Int :=
  (if highpassOn m then -t.hp else 0) + (if bandpassOn m then -t.bp else 0) + (if lowpassOn m then t.lp else 0)

/-- `DIV`, the output divisor (42 R210). -/
def divisor (P : SidParams) (cfg : SidConfig) : Int := (P.channelCount : Int) * 15 + cfg.attenuation

/-- The output sample (42 R210). -/
def outputSample (P : SidParams) (cfg : SidConfig) (m : Bank) (unfilt fout : Int) : Int :=
  truncDiv ((unfilt + fout) * (volume m : Int)) (divisor P cfg)

/-- The taps of a render after its voice sub-steps (42 R205 to R208). -/
def renderTaps (r : Rendering) : Taps :=
  let c := r.st.sid
  integrate r.mix.filtIn c.pBP c.pLP (cutCoeff r.st.params c.cfg.model (cutoff c.reg) r.mix.filtIn)
    (Config.resonance c.cfg.model (resonanceNibble c.reg))

/-- The sample of a render after its voice sub-steps (42 R209, R210). -/
def renderOut (r : Rendering) : Int :=
  outputSample r.st.params r.st.sid.cfg r.st.sid.reg r.mix.unfilt (filterOut r.st.sid.reg (renderTaps r))

/-- The integrators stored (42 R208). -/
def storeTaps (t : Taps) (s : State) : State := { s with sid := { s.sid with pBP := t.bp, pLP := t.lp } }

/-- The read-backs: OSC3 from voice index 2's waveform value, ENV3 from its envelope (42 R211). -/
def storeReadBacks (w2 : Nat) (s : State) : State :=
  storeReg 0x1C (BitVec.ofNat 8 s.sid.voices.a2.env) (storeReg 0x1B (BitVec.ofNat 8 (w2 >>> 8)) s)

/-- The filter sub-step: the integrators are checked, then stored; the sample is checked, then the read-backs are written
and the sample returned (42 R204, R212, R213; log 15). -/
def filterSub (r : Rendering) : Res :=
  let t := renderTaps r
  if inInt32 t.bp = false then raiseNumericRange .pBP r.st
  else if inInt32 t.lp = false then raiseNumericRange .pLP r.st
  else if inInt32 (renderOut r) = false then raiseNumericRange .out (storeTaps t r.st)
  else .next (returnOutput (.sample (renderOut r)) (storeReadBacks r.w (storeTaps t r.st)))

/-- SID_RENDER (42 R212). -/
def execSidRender (s : State) : Res := filterSub (renderVoices s)

end Sys2Proof.Machine
end

