-- ==== Sys2Proof/Machine/Create.lean ====
section
/-! DEFINITION. Creation and reset (70 R320 to R323). -/

namespace Sys2Proof.Machine

/-- The model a SID_CREATE operand names: 6581 or 8580 (00_scope R2; log 2). -/
def modelOf (m : Int) : Option ChipModel :=
  if m = 6581 then some .mos6581 else if m = 8580 then some .mos8580 else none

/-- The host context of 70 R320 as an instance's configuration. -/
def sidConfigOf (model : ChipModel) (ctx : HostContext) : SidConfig where
  model := model
  sampleRate := ctx.sampleRate.toNat
  cpuHz := ctx.cpuHz.toNat
  clockRatio := ctx.clockRatio.toNat
  attenuation := ctx.attenuation.toNat

/-- The checks of SID_CREATE on the host context, in the order of 70 R320; every entry is a natural (00_scope R7, 30_encoding
R81; log 16). -/
def contextOk (P : SidParams) (ctx : HostContext) : Bool :=
  decide (1 ≤ ctx.sampleRate ∧ 1 ≤ ctx.cpuHz) && decide (1 ≤ ctx.clockRatio ∧ ctx.clockRatio ≤ 4096)
    && decide (0 ≤ ctx.attenuation) && decide (1 ≤ (P.channelCount : Int) * 15 + ctx.attenuation)

/-- SID_CREATE (70 R320): a new instance, the bank at 0 and the runtime state reset. -/
def execSidCreate (m : Int) (ctx : HostContext) (s : State) : Res :=
  match modelOf m with
  | none => refuse .badConfig
  | some model =>
    if contextOk s.params ctx then .next { s with sid := Sid.created s.params.noiseSeed (sidConfigOf model ctx) }
    else refuse .badConfig

/-- The engine state of a SID reset; bank and configuration kept (70 R321). -/
def resetSid (seed : Nat) (c : Sid) : Sid :=
  { c with
    voices := ⟨Voice.reset seed, Voice.reset seed, Voice.reset seed⟩
    syncRise := false
    ringMSB := 0
    pLP := 0
    pBP := 0
    pVol := 0 }

/-- SID_RESET (70 R321). -/
def execSidReset (s : State) : Res := .next { s with sid := resetSid s.params.noiseSeed s.sid }

/-- The configuration checks of SN_CREATE, in the order of 70 R322, after the types of 10_state R39 (log 17). -/
def snArgsOk (c : SnArgs) : Bool :=
  inRange 1 c.quality && decide (0 ≤ c.baseIncr) && decide (0 ≤ c.smoothShift) && decide (c.volTable.length = 16)
    && decide (1 ≤ c.sampleRate ∧ c.sampleRate ≤ 2 ^ 31)
    && decide (1 ≤ c.clock / 16 ∧ c.clock / 16 ≤ 2 ^ 31)
    && decide (1 ≤ c.noiseSeed ∧ c.noiseSeed ≤ 0xFFFF)
    && decide (0 ≤ c.whiteTap ∧ c.whiteTap ≤ 0xFFFF) && decide (c.frefMult = 1 ∨ c.frefMult = 2)
    && c.volTable.all (fun x => decide (0 ≤ x))

/-- The operands of SN_CREATE as an instance's configuration. -/
def snConfigOf (c : SnArgs) : SnConfig where
  quality := decide (c.quality = 1)
  clock := c.clock.toNat
  sampleRate := c.sampleRate.toNat
  baseIncr := c.baseIncr.toNat
  volTable := c.volTable.map Int.toNat
  smoothShift := c.smoothShift.toNat
  whiteTap := c.whiteTap.toNat
  noiseSeed := c.noiseSeed.toNat
  frefMult := c.frefMult.toNat

/-- SN_CREATE (70 R322). -/
def execSnCreate (cfg : SnArgs) (s : State) : Res :=
  if snArgsOk cfg then .next { s with sn := Sn.created (snConfigOf cfg) } else refuse .badConfig

/-- SN_RESET (70 R323): every field but the configuration. -/
def execSnReset (s : State) : Res := .next { s with sn := Sn.created s.sn.cfg }

end Sys2Proof.Machine
end

