-- ==== Sys2Proof/Machine/Envelope.lean ====
section
/-! DEFINITION. SID_ADVANCE and the ADSR state machine (40 R120 to R130). -/

namespace Sys2Proof.Machine

/-- The prescale period of the active segment (40 R123). -/
def periodInForce (P : SidParams) (ad sr : Nat) (V : Voice) : Nat :=
  match voiceSegment V with
  | .attack => prescale P (attackRate ad)
  | .decaySustain => prescale P (decayRate ad)
  | .release => prescale P (releaseRate sr)

/-- The attack step (40 R128). -/
def attackStep (V : Voice) : Voice :=
  let e := min (V.env + 1) 255
  { V with env := e, atk := if e = 255 then false else V.atk }

/-- The decay, sustain and release step (40 R129, R130). -/
def decayStep (sr : Nat) (V : Voice) : Voice :=
  if V.ds = true ∧ V.env = sustainLevel sr then V
  else
    let e := V.env - 1
    { V with env := e, holdn := if e = 0 then false else V.holdn }

/-- The envelope step that follows an exponent match, or a period match in Attack (40 R127): only while holdn is set. -/
def envelopeStep (sr : Nat) (V : Voice) : Voice :=
  if V.holdn then (if V.atk then attackStep V else decayStep sr V) else V

/-- After a period match: Attack bypasses the exponent counter; otherwise it gates the step (40 R127). -/
def exponentStep (P : SidParams) (sr : Nat) (V : Voice) : Voice :=
  if V.atk then envelopeStep sr { V with exp := 0 }
  else if V.exp + 1 = expPeriod P V.env then envelopeStep sr { V with exp := 0 }
  else { V with exp := V.exp + 1 }

/-- The rate counter: `n = (rc + c) mod 32768`, a match when `P <= n < P + c` (40 R125).
DEDUCED: the cycle interval 40 R135 gives for a full attack does not follow from this for every counter below `P`; the model
follows R125 (log 31). -/
def rateStep (P : SidParams) (ad sr c : Nat) (V : Voice) : Voice :=
  let period := periodInForce P ad sr V
  let n := (V.rc + c) % 32768
  if period ≤ n ∧ n < period + c then exponentStep P sr { V with rc := n - period } else { V with rc := n }

/-- `advanceVoice`: gate edges first, then the rate counter (40 R120, R121). -/
def advanceVoice (P : SidParams) (ctl ad sr c : Nat) (V : Voice) : Voice := rateStep P ad sr c (gateEdges ctl V)

/-- One sub-step of SID_ADVANCE: voice `v` with its three register bytes (20_memory R66 item 2). -/
def advanceSub (v : Ix3) (c : Nat) (s : State) : State :=
  let m := s.sid.reg
  let V := advanceVoice s.params (controlReg m v) (adReg m v) (srReg m v) c (triGet s.sid.voices v)
  { s with sid := { s.sid with voices := triSet s.sid.voices v V } }

/-- SID_ADVANCE (40 R120): voices 0, 1, 2 in order, with HOST_W between them (20_memory R66). A negative count is refused
(30_encoding R81). -/
def execSidAdvance (c : Int) (s : State) : Res :=
  if 0 ≤ c then
    .next (advanceSub .i2 c.toNat (hostPoint (advanceSub .i1 c.toNat (hostPoint (advanceSub .i0 c.toNat s)))))
  else refuse .badOperand

end Sys2Proof.Machine
end

