-- ==== Sys2Proof/Machine/SidRegs.lean ====
section
/-! DEFINITION. SID_WRITE and SID_READ (20_memory R62, R63) and the 29 register rows SID_WR_*, each a SID_WRITE of its
offset (opcode table; the meaning of each byte is the rule of 10_state cited). -/

namespace Sys2Proof.Machine

/-- SID_WRITE (20_memory R62): out-of-range operands are refused before anything changes (60 R303). -/
def execSidWrite (a d : Int) (s : State) : Res :=
  if inRange 0x1C a && inRange 0xFF d then .next (storeReg a.toNat (BitVec.ofInt 8 d) s) else refuse .badOperand

/-- SID_READ (20_memory R63): returns the byte, changes no register. -/
def execSidRead (a : Int) (s : State) : Res :=
  if inRange 0x1C a then .next (returnByte (readReg s a.toNat) s) else refuse .badOperand

/-- Voice 0 frequency bits 7..0 (10_state R45). -/
def execSidWrV0FreqLo (d : Byte) (s : State) : Res := .next (storeReg 0x00 d s)

/-- Voice 0 frequency bits 15..8 (10_state R45). -/
def execSidWrV0FreqHi (d : Byte) (s : State) : Res := .next (storeReg 0x01 d s)

/-- Voice 0 pulse width bits 7..0 (10_state R46). -/
def execSidWrV0PwLo (d : Byte) (s : State) : Res := .next (storeReg 0x02 d s)

/-- Voice 0 pulse width bits 11..8 in bits 3..0 (10_state R46). -/
def execSidWrV0PwHi (d : Byte) (s : State) : Res := .next (storeReg 0x03 d s)

/-- Voice 0 control bits (10_state R47). -/
def execSidWrV0Control (d : Byte) (s : State) : Res := .next (storeReg 0x04 d s)

/-- Voice 0 attack and decay rates (10_state R48). -/
def execSidWrV0Ad (d : Byte) (s : State) : Res := .next (storeReg 0x05 d s)

/-- Voice 0 sustain level and release rate (10_state R49). -/
def execSidWrV0Sr (d : Byte) (s : State) : Res := .next (storeReg 0x06 d s)

/-- Voice 1 frequency bits 7..0 (10_state R45). -/
def execSidWrV1FreqLo (d : Byte) (s : State) : Res := .next (storeReg 0x07 d s)

/-- Voice 1 frequency bits 15..8 (10_state R45). -/
def execSidWrV1FreqHi (d : Byte) (s : State) : Res := .next (storeReg 0x08 d s)

/-- Voice 1 pulse width bits 7..0 (10_state R46). -/
def execSidWrV1PwLo (d : Byte) (s : State) : Res := .next (storeReg 0x09 d s)

/-- Voice 1 pulse width bits 11..8 in bits 3..0 (10_state R46). -/
def execSidWrV1PwHi (d : Byte) (s : State) : Res := .next (storeReg 0x0A d s)

/-- Voice 1 control bits (10_state R47). -/
def execSidWrV1Control (d : Byte) (s : State) : Res := .next (storeReg 0x0B d s)

/-- Voice 1 attack and decay rates (10_state R48). -/
def execSidWrV1Ad (d : Byte) (s : State) : Res := .next (storeReg 0x0C d s)

/-- Voice 1 sustain level and release rate (10_state R49). -/
def execSidWrV1Sr (d : Byte) (s : State) : Res := .next (storeReg 0x0D d s)

/-- Voice 2 frequency bits 7..0 (10_state R45). -/
def execSidWrV2FreqLo (d : Byte) (s : State) : Res := .next (storeReg 0x0E d s)

/-- Voice 2 frequency bits 15..8 (10_state R45). -/
def execSidWrV2FreqHi (d : Byte) (s : State) : Res := .next (storeReg 0x0F d s)

/-- Voice 2 pulse width bits 7..0 (10_state R46). -/
def execSidWrV2PwLo (d : Byte) (s : State) : Res := .next (storeReg 0x10 d s)

/-- Voice 2 pulse width bits 11..8 in bits 3..0 (10_state R46). -/
def execSidWrV2PwHi (d : Byte) (s : State) : Res := .next (storeReg 0x11 d s)

/-- Voice 2 control bits (10_state R47). -/
def execSidWrV2Control (d : Byte) (s : State) : Res := .next (storeReg 0x12 d s)

/-- Voice 2 attack and decay rates (10_state R48). -/
def execSidWrV2Ad (d : Byte) (s : State) : Res := .next (storeReg 0x13 d s)

/-- Voice 2 sustain level and release rate (10_state R49). -/
def execSidWrV2Sr (d : Byte) (s : State) : Res := .next (storeReg 0x14 d s)

/-- Cutoff bits 2..0 (10_state R50). -/
def execSidWrFcLo (d : Byte) (s : State) : Res := .next (storeReg 0x15 d s)

/-- Cutoff bits 10..3 (10_state R51). -/
def execSidWrFcHi (d : Byte) (s : State) : Res := .next (storeReg 0x16 d s)

/-- Resonance and routing (10_state R52). -/
def execSidWrResFilt (d : Byte) (s : State) : Res := .next (storeReg 0x17 d s)

/-- 3OFF, filter taps and volume (10_state R53). -/
def execSidWrModeVol (d : Byte) (s : State) : Res := .next (storeReg 0x18 d s)

/-- Storage only (10_state R54). -/
def execSidWrPotx (d : Byte) (s : State) : Res := .next (storeReg 0x19 d s)

/-- Storage only (10_state R54). -/
def execSidWrPoty (d : Byte) (s : State) : Res := .next (storeReg 0x1A d s)

/-- OSC3, overwritten by the next render (10_state R55). -/
def execSidWrOsc3 (d : Byte) (s : State) : Res := .next (storeReg 0x1B d s)

/-- ENV3, overwritten by the next render (10_state R55). -/
def execSidWrEnv3 (d : Byte) (s : State) : Res := .next (storeReg 0x1C d s)

end Sys2Proof.Machine
end

