-- ==== Sys2Proof/Machine/SnStep.lean ====
section
/-! DEFINITION. The SN76489 unit step, the rate converter and the step operations (43 R250 to R267). -/

namespace Sys2Proof.Machine

/-- The noise period in units (43 R253). -/
def noisePeriod (g : Sn) : Nat :=
  if noiseUsesTone2 g.noise then max 1 (g.cfg.frefMult * g.tones.a2.freq) else 32 <<< g.noise.rate

/-- The noise LFSR step (43 R254). -/
def noiseLfsrStep (mode : Bool) (tap x : Nat) : Nat :=
  let fb := if mode then parity (x &&& tap) else bit x 0
  (x >>> 1) ||| (bitNat fb <<< 15)

/-- The noise part of a unit (43 R250, R253, R254). -/
def noiseUnit (g : Sn) : Noise :=
  let n := g.noise.cnt + 1
  if n ≥ noisePeriod g then
    { g.noise with cnt := 0, seed := noiseLfsrStep g.noise.mode g.cfg.whiteTap g.noise.seed }
  else { g.noise with cnt := n }

/-- The tone part of a unit for one channel (43 R251). -/
def toneUnit (t : Tone) : Tone :=
  if t.freq ≤ 1 then { t with edge := true, cnt := 0 }
  else if t.cnt + 1 ≥ t.freq then { t with edge := !t.edge, cnt := 0 }
  else { t with cnt := t.cnt + 1 }

/-- A running output moved toward its target (43 R256). -/
def smooth (shift : Nat) (target chout : Int) : Int := chout + asr (target - chout) shift

/-- A tone channel's target (43 R256). -/
def toneTarget (cfg : SnConfig) (t : Tone) : Int := if t.edge && !t.mute then volEntry cfg t.vol else 0

/-- The noise channel's target; the mute flag does not apply to it (43 R256). -/
def noiseTarget (cfg : SnConfig) (n : Noise) : Int := if noiseHigh n.seed then volEntry cfg n.vol else 0

/-- A tone channel's running output, from the edge this unit left (43 R256). -/
def toneOut (cfg : SnConfig) (t : Tone) : Tone := { t with chout := smooth cfg.smoothShift (toneTarget cfg t) t.chout }

/-- The noise channel's running output, from the seed this unit left (43 R256). -/
def noiseOutUnit (cfg : SnConfig) (n : Noise) : Noise :=
  { n with chout := smooth cfg.smoothShift (noiseTarget cfg n) n.chout }

/-- `unit()` (43 R250). -/
def unitStep (g : Sn) : Sn :=
  { g with
    noise := noiseOutUnit g.cfg (noiseUnit g)
    tones := triMap (fun t => toneOut g.cfg (toneUnit t)) g.tones }

/-- `unit()` repeated. -/
def repeatUnit : Nat → Sn → Sn
  | 0, g => g
  | n + 1, g => repeatUnit n (unitStep g)

/-- `REALSTEP` (43 R262). -/
def realStep (cfg : SnConfig) : Nat := 2 ^ 31 / cfg.sampleRate

/-- `SNSTEP` (43 R262). -/
def snUnitStep (cfg : SnConfig) : Nat := 2 ^ 31 / (cfg.clock / 16)

/-- The fixed-increment mode (43 R263). -/
def fixedAdvance (g : Sn) : Sn :=
  let b := g.bacc + g.cfg.baseIncr
  repeatUnit (b / 2 ^ 24) { g with bacc := b % 2 ^ 24 }

/-- The loop of quality mode, with fuel: while `REALSTEP > stime`, add `SNSTEP` and run a unit (43 R264; log 24). -/
def qualityLoop : Nat → Sn → Sn
  | 0, g => g
  | fuel + 1, g =>
    if realStep g.cfg > g.stime then qualityLoop fuel (unitStep { g with stime := g.stime + snUnitStep g.cfg }) else g

/-- Quality mode (43 R264). Each round of the loop adds at least 1 to `stime`, so `REALSTEP` rounds are enough. -/
def qualityAdvance (g : Sn) : Sn :=
  let h := qualityLoop (realStep g.cfg) g
  { h with stime := h.stime - realStep h.cfg }

/-- `rateAdvance()` (43 R261). -/
def rateAdvance (g : Sn) : Sn := if g.cfg.quality then qualityAdvance g else fixedAdvance g

/-- The mono mix (43 R265). -/
def monoMix (g : Sn) : Int := g.tones.a0.chout + g.tones.a1.chout + g.tones.a2.chout + g.noise.chout

/-- A channel's output on a side whose mask bit is given. -/
def gated (on : Bool) (x : Int) : Int := if on then x else 0

/-- The sum of the channels whose mask bits, from bit `base` up, are set (43 R266). -/
def sideMix (base : Nat) (g : Sn) : Int :=
  gated (g.stereo.getLsbD base) g.tones.a0.chout + gated (g.stereo.getLsbD (base + 1)) g.tones.a1.chout
    + gated (g.stereo.getLsbD (base + 2)) g.tones.a2.chout + gated (g.stereo.getLsbD (base + 3)) g.noise.chout

/-- The left side: mask bits 7..4 (43 R266, 30_encoding R86). -/
def leftMix (g : Sn) : Int := sideMix 4 g

/-- The right side: mask bits 3..0 (43 R266, 30_encoding R86). -/
def rightMix (g : Sn) : Int := sideMix 0 g

/-- SN_STEP (43 R260). -/
def execSnStep (s : State) : Res :=
  .next (returnOutput (.sample (monoMix (rateAdvance s.sn))) (onSn rateAdvance s))

/-- SN_STEP_STEREO (43 R267). -/
def execSnStepStereo (s : State) : Res :=
  .next (returnOutput (.stereo (leftMix (rateAdvance s.sn)) (rightMix (rateAdvance s.sn))) (onSn rateAdvance s))

end Sys2Proof.Machine
end

