-- ==== Sys2Proof/Machine/SnWrites.lean ====
section
/-! DEFINITION. The SN76489 write operations (43 R240 to R249) and the nine byte rows of the opcode table, each an SN_WRITE
of a byte of its row. -/

namespace Sys2Proof.Machine

/-- SN_WRITE (43 R240). -/
def execSnWrite (b : Int) (s : State) : Res :=
  if inRange 0xFF b then .next (onSn (snByte b.toNat) s) else refuse .badOperand

/-- SN_GG_WRITE (43 R248). -/
def execSnGgWrite (b : Int) (s : State) : Res :=
  if inRange 0xFF b then .next (onSn (setStereo (BitVec.ofInt 8 b)) s) else refuse .badOperand

/-- The tone channel a number in `0..2` names. -/
def toneIndex (i : Int) : Ix3 := if i = 0 then .i0 else if i = 1 then .i1 else .i2

/-- SN_SET_MUTE (43 R249). -/
def execSnSetMute (i f : Int) (s : State) : Res :=
  if inRange 2 i && inRange 1 f then .next (onSn (setMute (toneIndex i) (decide (f = 1))) s) else refuse .badOperand

/-- `1000dddd` (43 R241). -/
def execSnLatchTone0Freq (d : Nibble) (s : State) : Res := .next (onSn (fun g => setDividerLow .i0 d.toNat (latch 0 g)) s)

/-- `1001dddd` (43 R242). -/
def execSnLatchTone0Vol (d : Nibble) (s : State) : Res := .next (onSn (fun g => setToneVolume .i0 d.toNat (latch 1 g)) s)

/-- `1010dddd` (43 R241). -/
def execSnLatchTone1Freq (d : Nibble) (s : State) : Res := .next (onSn (fun g => setDividerLow .i1 d.toNat (latch 2 g)) s)

/-- `1011dddd` (43 R242). -/
def execSnLatchTone1Vol (d : Nibble) (s : State) : Res := .next (onSn (fun g => setToneVolume .i1 d.toNat (latch 3 g)) s)

/-- `1100dddd` (43 R241). -/
def execSnLatchTone2Freq (d : Nibble) (s : State) : Res := .next (onSn (fun g => setDividerLow .i2 d.toNat (latch 4 g)) s)

/-- `1101dddd` (43 R242). -/
def execSnLatchTone2Vol (d : Nibble) (s : State) : Res := .next (onSn (fun g => setToneVolume .i2 d.toNat (latch 5 g)) s)

/-- `1110xmrr`: `x` is ignored, `m = 1` is white, `rr` the rate; the LFSR is reseeded (43 R245, 30_encoding R84). -/
def execSnLatchNoiseCtrl (_x m : BitVec 1) (rr : BitVec 2) (s : State) : Res :=
  .next (onSn (fun g => setNoiseControl (decide (m = 1#1)) rr.toNat (latch 6 g)) s)

/-- `1111dddd` (43 R246). -/
def execSnLatchNoiseVol (d : Nibble) (s : State) : Res := .next (onSn (fun g => setNoiseVolume d.toNat (latch 7 g)) s)

/-- `0xhhhhhh`: `x` is ignored (43 R247). -/
def execSnData (_x : BitVec 1) (h : BitVec 6) (s : State) : Res := .next (onSn (dataWrite h.toNat) s)

end Sys2Proof.Machine
end

