-- ==== Sys2Proof/Machine/Dispatch.lean ====
section
/-! DEFINITION. The meaning of every instruction, one arm each. -/

namespace Sys2Proof.Machine

def exec (i : Instr) (s : State) : Host.Outcome State Fault Refusal :=
  match i with
  | .sidCreate m ctx => Sys2Proof.Machine.execSidCreate m ctx s
  | .sidReset => Sys2Proof.Machine.execSidReset s
  | .sidWrite a d => Sys2Proof.Machine.execSidWrite a d s
  | .sidRead a => Sys2Proof.Machine.execSidRead a s
  | .sidAdvance c => Sys2Proof.Machine.execSidAdvance c s
  | .sidRender => Sys2Proof.Machine.execSidRender s
  | .snCreate cfg => Sys2Proof.Machine.execSnCreate cfg s
  | .snReset => Sys2Proof.Machine.execSnReset s
  | .snWrite b => Sys2Proof.Machine.execSnWrite b s
  | .snGgWrite b => Sys2Proof.Machine.execSnGgWrite b s
  | .snSetMute ch f => Sys2Proof.Machine.execSnSetMute ch f s
  | .snStep => Sys2Proof.Machine.execSnStep s
  | .snStepStereo => Sys2Proof.Machine.execSnStepStereo s
  | .sidWrV0FreqLo d => Sys2Proof.Machine.execSidWrV0FreqLo d s
  | .sidWrV0FreqHi d => Sys2Proof.Machine.execSidWrV0FreqHi d s
  | .sidWrV0PwLo d => Sys2Proof.Machine.execSidWrV0PwLo d s
  | .sidWrV0PwHi d => Sys2Proof.Machine.execSidWrV0PwHi d s
  | .sidWrV0Control d => Sys2Proof.Machine.execSidWrV0Control d s
  | .sidWrV0Ad d => Sys2Proof.Machine.execSidWrV0Ad d s
  | .sidWrV0Sr d => Sys2Proof.Machine.execSidWrV0Sr d s
  | .sidWrV1FreqLo d => Sys2Proof.Machine.execSidWrV1FreqLo d s
  | .sidWrV1FreqHi d => Sys2Proof.Machine.execSidWrV1FreqHi d s
  | .sidWrV1PwLo d => Sys2Proof.Machine.execSidWrV1PwLo d s
  | .sidWrV1PwHi d => Sys2Proof.Machine.execSidWrV1PwHi d s
  | .sidWrV1Control d => Sys2Proof.Machine.execSidWrV1Control d s
  | .sidWrV1Ad d => Sys2Proof.Machine.execSidWrV1Ad d s
  | .sidWrV1Sr d => Sys2Proof.Machine.execSidWrV1Sr d s
  | .sidWrV2FreqLo d => Sys2Proof.Machine.execSidWrV2FreqLo d s
  | .sidWrV2FreqHi d => Sys2Proof.Machine.execSidWrV2FreqHi d s
  | .sidWrV2PwLo d => Sys2Proof.Machine.execSidWrV2PwLo d s
  | .sidWrV2PwHi d => Sys2Proof.Machine.execSidWrV2PwHi d s
  | .sidWrV2Control d => Sys2Proof.Machine.execSidWrV2Control d s
  | .sidWrV2Ad d => Sys2Proof.Machine.execSidWrV2Ad d s
  | .sidWrV2Sr d => Sys2Proof.Machine.execSidWrV2Sr d s
  | .sidWrFcLo d => Sys2Proof.Machine.execSidWrFcLo d s
  | .sidWrFcHi d => Sys2Proof.Machine.execSidWrFcHi d s
  | .sidWrResFilt d => Sys2Proof.Machine.execSidWrResFilt d s
  | .sidWrModeVol d => Sys2Proof.Machine.execSidWrModeVol d s
  | .sidWrPotx d => Sys2Proof.Machine.execSidWrPotx d s
  | .sidWrPoty d => Sys2Proof.Machine.execSidWrPoty d s
  | .sidWrOsc3 d => Sys2Proof.Machine.execSidWrOsc3 d s
  | .sidWrEnv3 d => Sys2Proof.Machine.execSidWrEnv3 d s
  | .snLatchTone0Freq d => Sys2Proof.Machine.execSnLatchTone0Freq d s
  | .snLatchTone0Vol d => Sys2Proof.Machine.execSnLatchTone0Vol d s
  | .snLatchTone1Freq d => Sys2Proof.Machine.execSnLatchTone1Freq d s
  | .snLatchTone1Vol d => Sys2Proof.Machine.execSnLatchTone1Vol d s
  | .snLatchTone2Freq d => Sys2Proof.Machine.execSnLatchTone2Freq d s
  | .snLatchTone2Vol d => Sys2Proof.Machine.execSnLatchTone2Vol d s
  | .snLatchNoiseCtrl x m rr => Sys2Proof.Machine.execSnLatchNoiseCtrl x m rr s
  | .snLatchNoiseVol d => Sys2Proof.Machine.execSnLatchNoiseVol d s
  | .snData x h => Sys2Proof.Machine.execSnData x h s

end Sys2Proof.Machine
end

