-- ==== Sys2Proof/Machine/Fetch.lean ====
section
/-! DEFINITION. Taking the next host operation (00_scope R15, 10_state R41; log 1) and what a code without an instruction is
refused with (60 R303; log 21). -/

namespace Sys2Proof.Machine

/-- The next operation and the machine past it: removed from the queue, the index advanced by 1 (10_state R41). -/
def fetch (s : State) : Option (Code × State) :=
  match s.queue with
  | [] => none
  | c :: rest => some (c, { s with queue := rest, pos := s.pos + 1 })

/-- A code put where the next operation is taken from, in place of the one that stands there. -/
def placeCode (c : Code) (s : State) : State := { s with queue := c :: s.queue.drop 1 }

/-- The refusal of a code that stands for no instruction: an offset outside the bank is a bad operand (30_encoding R88),
a record with the wrong number of operands is no operation (30_encoding R80). -/
def refusalOf : DecodeError → Refusal
  | .notAnOperation _ => .notAnOperation
  | .noSuchOffset _ => .badOperand

end Sys2Proof.Machine
end

