-- ==== Sys2Proof/Machine/Step.lean ====
section
/-! DEFINITION. One step of the machine: the next host operation, decoded and performed. -/

namespace Sys2Proof.Machine

/-- One step: with no operation given, nothing changes (60 R312, log 20); otherwise the next operation of the queue is taken,
the position advances by 1 (10_state R41), and the operation is decoded and performed.
DESIGN CHOICE: a refused operation ends the run, with no next state; the operations after it are not performed (log 30). -/
def step (s : State) : Host.Outcome State Fault Refusal :=
  match fetch s with
  | none => .next s
  | some (c, s') =>
    match decode c with
    | .error e => refuse (refusalOf e)
    | .ok i => exec i s'

/-- `s` with the instruction of an opcode-table word as the next operation of the queue (log 1, 3). -/
def State.withFetchWord (s : State) (nbits w : Nat) : State := placeCode (tableCode nbits w) s

end Sys2Proof.Machine
end

