-- ==== Sys2Proof/Safety.lean ====
section
/-! DEFINITION. What counts as a safe run: the ranges of 10_state, 41 R176, 40 R133 and 43 R269 as predicates on the state,
and the host's cadence conditions (70 R330, R331). -/

namespace Sys2Proof.Machine

/-- The parameters lie in the ranges of 00_scope R7, 40 R124, R126 and 10_state R28 (log 10, 25). -/
abbrev ParamsOk (P : SidParams) : Prop :=
  P.prescaleRest.length = 15 ∧ (∀ x ∈ P.prescaleRest, 1 ≤ x ∧ x ≤ 32767)
    ∧ P.expPeriod.length = 256 ∧ (∀ x ∈ P.expPeriod, 1 ≤ x ∧ x ≤ 255)
    ∧ 1 ≤ P.noiseSeed ∧ P.noiseSeed < 2 ^ 23 ∧ 1 ≤ P.trapMinStep ∧ 1 ≤ P.sawK

/-- The reachable combinations of `(gate, atk, ds, holdn)` (10_state R23). -/
abbrev AdsrLegal (V : Voice) : Prop :=
  (V.gate, V.atk, V.ds, V.holdn) ∈
    [(false, false, false, false), (false, false, false, true), (true, false, true, false), (true, false, true, true),
      (true, true, true, true)]

/-- The envelope's ranges (10_state R24 to R26, 40 R133). -/
abbrev EnvelopeOk (P : SidParams) (V : Voice) : Prop := V.rc < 32768 ∧ V.env ≤ 255 ∧ V.exp < expPeriod P V.env

/-- The waveform generator's ranges (10_state R27 to R30, 41 R176). -/
abbrev WaveOk (V : Voice) : Prop :=
  V.acc < 2 ^ 28 ∧ V.pacc < 2 ^ 28 ∧ 1 ≤ V.lfsr ∧ V.lfsr < 2 ^ 23 ∧ V.pwav ≤ 0xFFFF ∧ V.pblend ≤ 0xFFFF

/-- A property of each of three. -/
abbrev TriAll {α : Type} (p : α → Prop) (t : Tri α) : Prop := p t.a0 ∧ p t.a1 ∧ p t.a2

/-- The chip-wide ranges (10_state R31). -/
abbrev ChipOk (c : Sid) : Prop := (c.ringMSB = 0 ∨ c.ringMSB = 2 ^ 27) ∧ inInt32 c.pLP = true ∧ inInt32 c.pBP = true

/-- The configuration a SID_CREATE accepts (70 R320). -/
abbrev SidConfigOk (P : SidParams) (cfg : SidConfig) : Prop :=
  1 ≤ cfg.sampleRate ∧ 1 ≤ cfg.cpuHz ∧ 1 ≤ cfg.clockRatio ∧ cfg.clockRatio ≤ 4096 ∧ 1 ≤ divisor P cfg

/-- The configuration an SN_CREATE accepts (70 R322). -/
abbrev SnConfigOk (c : SnConfig) : Prop :=
  1 ≤ c.sampleRate ∧ c.sampleRate ≤ 2 ^ 31 ∧ 1 ≤ c.clock / 16 ∧ c.clock / 16 ≤ 2 ^ 31 ∧ 1 ≤ c.noiseSeed
    ∧ c.noiseSeed ≤ 0xFFFF ∧ c.whiteTap ≤ 0xFFFF ∧ (c.frefMult = 1 ∨ c.frefMult = 2) ∧ c.volTable.length = 16

/-- `max(SN_VOL_TABLE)` (10_state R38). -/
def volMax (c : SnConfig) : Int := ((c.volTable.foldl max 0 : Nat) : Int)

/-- A running output's range (10_state R38). -/
abbrev OutOk (c : SnConfig) (x : Int) : Prop := 0 ≤ x ∧ x ≤ volMax c

/-- A tone channel's ranges (10_state R33, 43 R269). -/
abbrev ToneOk (c : SnConfig) (t : Tone) : Prop := t.freq ≤ 1023 ∧ t.vol ≤ 15 ∧ t.cnt ≤ 1022 ∧ OutOk c t.chout

/-- The noise channel's ranges (10_state R34, 43 R269); the seed is nonzero where the white tap has bit 0 set. -/
abbrev NoiseOk (c : SnConfig) (n : Noise) : Prop :=
  n.vol ≤ 15 ∧ n.rate ≤ 3 ∧ n.seed ≤ 0xFFFF ∧ (bit c.whiteTap 0 = true → n.seed ≠ 0) ∧ OutOk c n.chout

/-- The generator's ranges (10_state R33 to R38, 43 R264, R269). -/
abbrev SnOk (g : Sn) : Prop :=
  SnConfigOk g.cfg ∧ TriAll (ToneOk g.cfg) g.tones ∧ NoiseOk g.cfg g.noise ∧ g.adr ≤ 7 ∧ g.bacc < 2 ^ 24
    ∧ g.stime < realStep g.cfg + snUnitStep g.cfg

/-- The SID's ranges. -/
abbrev SidOk (P : SidParams) (c : Sid) : Prop :=
  bankWf c.reg = true ∧ TriAll AdsrLegal c.voices ∧ TriAll (EnvelopeOk P) c.voices ∧ TriAll WaveOk c.voices ∧ ChipOk c
    ∧ SidConfigOk P c.cfg

/-- Every range the spec gives the state. -/
abbrev Inv (s : State) : Prop := ParamsOk s.params ∧ SidOk s.params s.sid ∧ SnOk s.sn

/-- A step goes on: no fault, no refusal. -/
def StepGoesOn (s : State) : Prop := ∃ t, step s = .next t

/-- The cadence under which no period match is skipped at period `P` (40 R131, 70 R330): `c` at most `P`, and no wrap of the
15-bit counter between two matches (log 27). -/
abbrev CadenceOk (P c : Nat) : Prop := c ≤ P ∧ P + c ≤ 32768

end Sys2Proof.Machine
end

