-- ==== Sys2Proof/WellFormed.lean ====
section
/-! DEFINITION. Which instructions are well formed: the operand ranges of 30_encoding R80 and R81 and the configuration
checks of 70 R320 and R322. The checks that depend on a parameter of the device (the output divisor of R320) stand in the
meaning. -/

namespace Sys2Proof

/-- The host context checks of 70 R320 that read the context alone; every entry is a natural (00_scope R7, 30_encoding R81;
log 16). -/
def HostContext.ok (c : HostContext) : Bool :=
  decide (1 ≤ c.sampleRate) && decide (1 ≤ c.cpuHz) && decide (1 ≤ c.clockRatio) && decide (c.clockRatio ≤ 4096)
    && decide (0 ≤ c.attenuation)

/-- The configuration checks of 70 R322, and the types 10_state R39 gives its entries (log 17). -/
def SnArgs.ok (c : SnArgs) : Bool :=
  (decide (c.quality = 0) || decide (c.quality = 1))
    && decide (1 ≤ c.sampleRate) && decide (c.sampleRate ≤ 2 ^ 31)
    && decide (1 ≤ c.clock / 16) && decide (c.clock / 16 ≤ 2 ^ 31)
    && decide (0 ≤ c.baseIncr) && decide (0 ≤ c.smoothShift)
    && decide (1 ≤ c.noiseSeed) && decide (c.noiseSeed ≤ 0xFFFF)
    && decide (0 ≤ c.whiteTap) && decide (c.whiteTap ≤ 0xFFFF)
    && (decide (c.frefMult = 1) || decide (c.frefMult = 2))
    && decide (c.volTable.length = 16) && c.volTable.all (fun x => decide (0 ≤ x))

/-- Well-formed instructions: every operand in the range of 30_encoding R80. -/
def Instr.wellFormed : Instr → Bool
  | .sidCreate m ctx => (decide (m = 6581) || decide (m = 8580)) && ctx.ok
  | .sidReset => true
  | .sidWrite a d => decide (0 ≤ a ∧ a ≤ 0x1C) && decide (0 ≤ d ∧ d ≤ 0xFF)
  | .sidRead a => decide (0 ≤ a ∧ a ≤ 0x1C)
  | .sidAdvance c => decide (0 ≤ c)
  | .sidRender => true
  | .snCreate cfg => cfg.ok
  | .snReset => true
  | .snWrite b => decide (0 ≤ b ∧ b ≤ 0xFF)
  | .snGgWrite b => decide (0 ≤ b ∧ b ≤ 0xFF)
  | .snSetMute i f => decide (0 ≤ i ∧ i ≤ 2) && decide (0 ≤ f ∧ f ≤ 1)
  | .snStep => true
  | .snStepStereo => true
  | .sidWrV0FreqLo _ => true
  | .sidWrV0FreqHi _ => true
  | .sidWrV0PwLo _ => true
  | .sidWrV0PwHi _ => true
  | .sidWrV0Control _ => true
  | .sidWrV0Ad _ => true
  | .sidWrV0Sr _ => true
  | .sidWrV1FreqLo _ => true
  | .sidWrV1FreqHi _ => true
  | .sidWrV1PwLo _ => true
  | .sidWrV1PwHi _ => true
  | .sidWrV1Control _ => true
  | .sidWrV1Ad _ => true
  | .sidWrV1Sr _ => true
  | .sidWrV2FreqLo _ => true
  | .sidWrV2FreqHi _ => true
  | .sidWrV2PwLo _ => true
  | .sidWrV2PwHi _ => true
  | .sidWrV2Control _ => true
  | .sidWrV2Ad _ => true
  | .sidWrV2Sr _ => true
  | .sidWrFcLo _ => true
  | .sidWrFcHi _ => true
  | .sidWrResFilt _ => true
  | .sidWrModeVol _ => true
  | .sidWrPotx _ => true
  | .sidWrPoty _ => true
  | .sidWrOsc3 _ => true
  | .sidWrEnv3 _ => true
  | .snLatchTone0Freq _ => true
  | .snLatchTone0Vol _ => true
  | .snLatchTone1Freq _ => true
  | .snLatchTone1Vol _ => true
  | .snLatchTone2Freq _ => true
  | .snLatchTone2Vol _ => true
  | .snLatchNoiseCtrl _ _ _ => true
  | .snLatchNoiseVol _ => true
  | .snData _ _ => true

end Sys2Proof
end

