-- ==== Sys2Proof/Certificates/Slice0/Obligations.lean ====
section
/-! DEFINITION. The statements for the provers. Each docstring names the rule of spec/ it rests on. -/

namespace Sys2Proof.Claims

open Sys2Proof.Machine

/-- Voice `v` of a machine. -/
def voice (s : State) (v : Ix3) : Voice := triGet s.sid.voices v

/-- `i` stores `d` at offset `a` of the register bank and does nothing else: the byte reads back, every other offset reads
as before, and every other part of the machine is unchanged. -/
def StoresByte (i : Instr) (s : State) (a : Nat) (d : Byte) : Prop :=
  ∃ t, exec i s = .next t ∧ readReg t a = d ∧ (∀ x, x ≠ a → readReg t x = readReg s x)
    ∧ t = { s with sid := { s.sid with reg := t.sid.reg } }

/-- `i` goes on and changes the SN76489 instance to `g` and nothing else. -/
def SetsSn (i : Instr) (s : State) (g : Sn) : Prop := exec i s = .next { s with sn := g }

/-- A tone channel of a generator with one field changed and the latch set. -/
def tonePut (g : Sn) (adr : Nat) (i : Ix3) (t : Tone) : Sn := { g with adr := adr, tones := triSet g.tones i t }

/-- The noise channel of a generator changed and the latch set. -/
def noisePut (g : Sn) (adr : Nat) (n : Noise) : Sn := { g with adr := adr, noise := n }

/-- Whether an instruction acts on the SID instance; the others act on the SN76489 instance (60 R310, R313). -/
def actsOnSid (i : Instr) : Bool :=
  match encode i with
  | .sidBus _ _ => true
  | .snBus _ => false
  | .record op _ => decide (op ∈ [HostOp.sidCreate, .sidReset, .sidWrite, .sidRead, .sidAdvance, .sidRender])

/-- The cause an operation is refused with (60 R303). -/
def causeOf : Instr → Refusal
  | .sidCreate _ _ => .badConfig
  | .snCreate _ => .badConfig
  | _ => .badOperand

/-- The period in force for a voice that sees no gate edge, written out from 40 R123. -/
def attackPeriod (P : SidParams) (ad : Nat) : Nat := prescale P (ad / 16 % 16)

/-- `k` advances of `c` cycles of one voice with unchanged registers. -/
def advanceTimes (P : SidParams) (ctl ad sr c k : Nat) (V : Voice) : Voice := (advanceVoice P ctl ad sr c)^[k] V

/-- The phase step of voice `v` (41 R152). -/
def stepOf (s : State) (v : Ix3) : Nat := (regNat s.sid.reg (7 * num v + 1) * 256 + regNat s.sid.reg (7 * num v)) * s.sid.cfg.clockRatio

/-- Bit `k` of the CONTROL byte of voice `v` (10_state R47). -/
def ctlBit (s : State) (v : Ix3) (k : Nat) : Bool := (regNat s.sid.reg (7 * num v + 4)).testBit k

/-- Two instructions are of one constructor, that is of one row of the opcode table. -/
def SameRow (i j : Instr) : Prop := i.ctorIdx = j.ctorIdx

/-- The operation a HOST_W act inside an ENGINE operation is (20_memory R66 item 1). -/
def instrOf : HostAct → Instr
  | .sidWrite a d => .sidWrite (a.val : Int) (d.toNat : Int)
  | .sidRead a => .sidRead (a.val : Int)
  | .snWrite b => .snWrite (b.toNat : Int)
  | .snGgWrite b => .snGgWrite (b.toNat : Int)
  | .snSetMute i f => .snSetMute (num i : Int) (if f then 1 else 0)

/-- Two bytes at an offset differ at most in bits no rule of the engine reads: all bits of the bytes from 0x19 on, bits 7..4 of
a PW_HI, bits 7..3 of FC_LO, and FILTEX (30_encoding R88, 10_state R54, R55). -/
def UnreadBits (a : Nat) (d e : Byte) : Prop :=
  (0x19 ≤ a ∧ a ≤ 0x1C) ∨ ((a = 0x03 ∨ a = 0x0A ∨ a = 0x11) ∧ d &&& 0x0F#8 = e &&& 0x0F#8)
    ∨ (a = 0x15 ∧ d &&& 0x07#8 = e &&& 0x07#8) ∨ (a = 0x17 ∧ d &&& 0xF7#8 = e &&& 0xF7#8)

/-- The inputs of the waveform of voice `v` in its sub-step (41 R150). -/
def waveOf (v : Ix3) (s : State) : WaveIn :=
  waveIn s.sid.cfg.model s.sid.cfg.clockRatio s.sid.reg v (voice s v) s.sid.syncRise s.sid.ringMSB

/-- An outcome with the states in it replaced by `f`. -/
def mapOutcome (f : State → State) : Res → Res
  | .next t => .next (f t)
  | .fault (.numericRange info left) => .fault (.numericRange info (f left))
  | .refused r => .refused r

end Sys2Proof.Claims

open Sys2Proof Sys2Proof.Machine Sys2Proof.Claims

/-- Decode and encode agree (30_encoding R80, R82 to R84, R110). The record layout is the model's (log 2). It rests on choices the spec marks as its own (decisions D32, D34, D39, D40, D44, D49; general knowledge in R82, R83, R84; log 12). -/
def Obligations.DecodeGivesBackEveryEncodedInstruction : Prop :=
  ∀ i : Instr, decode (encode i) = .ok i

/-- Each code has one meaning, and a code outside the encodings has none (30_encoding R80, R82 to R84, R88). That the bits the spec ignores (bit 6 of SN_DATA, bit 3 of a noise-control byte) are operands, so that encode gives them back, is the model's choice (log 5), and so are the record layout (log 2), the codes that name their space (log 3) and the refusal of a record with another number of operands (log 21); an offset byte above 0x1C is log 4. It rests on choices the spec marks as its own (decisions D32, D33, D34, D39, D40, D43, D49; general knowledge in R82, R83, R84; log 12). -/
def Obligations.EncodeGivesBackEveryDecodedCode : Prop :=
  ∀ (c : Code) (i : Instr), decode c = .ok i → encode i = c

/-- The opcode table's masks and patterns pick one constructor in each space (20_memory R60; 30_encoding R82, R83); which space a row belongs to is log 3, and an offset byte above 0x1C is log 4. It rests on choices the spec marks as its own (decisions D32; general knowledge in R82, R83; log 12). -/
def Obligations.OpcodeRowsDoNotOverlap : Prop :=
  (∀ (i j : Instr) (r q : Row) (w : Byte), i.row = some r → j.row = some q →
    (r.mask = 0x1F#8 ↔ q.mask = 0x1F#8) → r.hits w = true → q.hits w = true → SameRow i j)
    ∧ (∀ (i : Instr) (r : Row) (w : Byte), i.row = some r → r.hits w = true →
      (r.mask ≠ 0x1F#8 → SameRow (decodeSnBus w) i)
      ∧ (r.mask = 0x1F#8 → w.toNat ≤ 0x1C → ∀ d, ∃ j, decodeSidBus w d = .ok j ∧ SameRow j i))
    ∧ ∀ w : Byte, ∃ r, (decodeSnBus w).row = some r ∧ r.mask ≠ 0x1F#8 ∧ r.hits w = true

/-- A sanity check of the decoder (30_encoding R82 to R84, R110; 10_state R44). It rests on choices the spec marks as its own (decisions D3, D32, D34, D44; general knowledge in R44, R82, R83, R84; log 12). -/
def Obligations.SpecWordsDecodeAsWritten : Prop :=
  decode (.snBus 0b10000000#8) = .ok (.snLatchTone0Freq 0b0000#4)
    ∧ decode (.snBus 0b10011010#8) = .ok (.snLatchTone0Vol 0b1010#4)
    ∧ decode (.snBus 0b11100111#8) = .ok (.snLatchNoiseCtrl 0#1 1#1 0b11#2)
    ∧ decode (.snBus 0b00111111#8) = .ok (.snData 0#1 0b111111#6)
    ∧ decode (.sidBus 0x12#8 0x11#8) = .ok (.sidWrV2Control 0x11#8)
    ∧ decode (.record .sidAdvance [9]) = .ok (.sidAdvance 9)
    ∧ decode (.record .snSetMute [1, 1]) = .ok (.snSetMute 1 1)

/-- A program is a sequence of operations performed in order, its position an index that each advances by 1 (00_scope R15, 10_state R41; the queue is the model's, log 1). A code without an instruction: 30_encoding R88 and 60 R303 for the offset (log 4), the model's own choice for the record (log 21). Without an operation the state is held unchanged (60 R312; the idle step is log 20). It rests on choices the spec marks as its own (decisions D1, D32, D33, D43, D54; log 12). -/
def Obligations.StepRunsTheDecodedInstruction : Prop :=
  (∀ (s : State) (c : Code) (rest : List Code), s.queue = c :: rest →
    (∀ i, decode c = .ok i → step s = exec i { s with queue := rest, pos := s.pos + 1 })
    ∧ (∀ e, decode c = .error e → step s = .refused (refusalOf e)))
    ∧ (∀ a, refusalOf (.noSuchOffset a) = .badOperand) ∧ (∀ op, refusalOf (.notAnOperation op) = .notAnOperation)
    ∧ ∀ s : State, s.queue = [] → step s = .next s

/-- 41 R153. -/
def Obligations.AccumulatorClearsOrAddsTheStep : Prop :=
  ∀ (P : SidParams) (model : ChipModel) (ratio : Nat) (m : Bank) (v : Ix3) (V : Voice) (rise : Bool) (msb : Nat),
    let x := waveIn model ratio m v V rise msb
    let ctl := controlReg m v
    let out := (renderVoice P model ratio m v V rise msb).voice
    (Machine.testBit ctl = true ∨ (syncBit ctl = true ∧ rise = true) → out.acc = 0)
    ∧ (¬(Machine.testBit ctl = true ∨ (syncBit ctl = true ∧ rise = true)) → out.acc = (V.acc + x.step) % 2 ^ 28)
    ∧ x.acc = out.acc

/-- 60 R303, R305; 70 R320, R322; 30_encoding R81; 00_scope R7. That a negative SAMPLE_RATE, CPU_HZ or ATTENUATION is refused with BadConfig is log 16. Well-formedness of SN_CREATE holds the model's checks of log 17. It rests on choices the spec marks as its own (decisions D14, D35, D40, D43, D46, D50, D54; general knowledge in R7; log 12). -/
def Obligations.RefusedExactlyWhenIllFormed : Prop :=
  (∀ (i : Instr) (s : State) (r : Refusal), exec i s = .refused r ↔
    (i.wellFormed = false ∨ ∃ m ctx, i = .sidCreate m ctx ∧ (s.params.channelCount : Int) * 15 + ctx.attenuation < 1)
      ∧ r = causeOf i)
    ∧ refusalCode .badOperand = some 1 ∧ refusalCode .badConfig = some 2

/-- 60 R302: NumericRange, code 3, raised only by SID_RENDER. It rests on choices the spec marks as its own (decisions D31, D56; log 12). -/
def Obligations.OnlyRenderFaults : Prop :=
  ∀ (i : Instr) (s : State) (f : Fault), exec i s = .fault f → i = .sidRender ∧ faultCode f = 3

/-- 20_memory R62. It rests on choices the spec marks as its own (decisions D2, D43; log 12). -/
def Obligations.SidWriteStoresOneByte : Prop :=
  ∀ (s : State) (a d : Nat), bankWf s.sid.reg = true →
    (a ≤ 0x1C ∧ d ≤ 0xFF → StoresByte (.sidWrite a d) s a (BitVec.ofNat 8 d))
    ∧ (0x1C < a ∨ 0xFF < d → exec (.sidWrite a d) s = .refused .badOperand)

/-- 20_memory R62 at the offsets of 10_state R44 to R55. It rests on choices the spec marks as its own (decisions D2, D3, D30, D43, D48, D51; general knowledge in R44, R45, R46, R47, R48, R49, R50, R51, R52, R53, R54, R55; log 12). -/
def Obligations.RegisterRowsStoreAtTheirOffset : Prop :=
  ∀ (s : State) (d : Byte), bankWf s.sid.reg = true →
    StoresByte (.sidWrV0FreqLo d) s 0x00 d
    ∧ StoresByte (.sidWrV0FreqHi d) s 0x01 d
    ∧ StoresByte (.sidWrV0PwLo d) s 0x02 d
    ∧ StoresByte (.sidWrV0PwHi d) s 0x03 d
    ∧ StoresByte (.sidWrV0Control d) s 0x04 d
    ∧ StoresByte (.sidWrV0Ad d) s 0x05 d
    ∧ StoresByte (.sidWrV0Sr d) s 0x06 d
    ∧ StoresByte (.sidWrV1FreqLo d) s 0x07 d
    ∧ StoresByte (.sidWrV1FreqHi d) s 0x08 d
    ∧ StoresByte (.sidWrV1PwLo d) s 0x09 d
    ∧ StoresByte (.sidWrV1PwHi d) s 0x0A d
    ∧ StoresByte (.sidWrV1Control d) s 0x0B d
    ∧ StoresByte (.sidWrV1Ad d) s 0x0C d
    ∧ StoresByte (.sidWrV1Sr d) s 0x0D d
    ∧ StoresByte (.sidWrV2FreqLo d) s 0x0E d
    ∧ StoresByte (.sidWrV2FreqHi d) s 0x0F d
    ∧ StoresByte (.sidWrV2PwLo d) s 0x10 d
    ∧ StoresByte (.sidWrV2PwHi d) s 0x11 d
    ∧ StoresByte (.sidWrV2Control d) s 0x12 d
    ∧ StoresByte (.sidWrV2Ad d) s 0x13 d
    ∧ StoresByte (.sidWrV2Sr d) s 0x14 d
    ∧ StoresByte (.sidWrFcLo d) s 0x15 d
    ∧ StoresByte (.sidWrFcHi d) s 0x16 d
    ∧ StoresByte (.sidWrResFilt d) s 0x17 d
    ∧ StoresByte (.sidWrModeVol d) s 0x18 d
    ∧ StoresByte (.sidWrPotx d) s 0x19 d
    ∧ StoresByte (.sidWrPoty d) s 0x1A d
    ∧ StoresByte (.sidWrOsc3 d) s 0x1B d
    ∧ StoresByte (.sidWrEnv3 d) s 0x1C d

/-- 20_memory R63; the result list is the model's (log 8). It rests on choices the spec marks as its own (decisions D49; log 12). -/
def Obligations.SidReadReturnsTheByte : Prop :=
  ∀ (s : State) (a : Nat),
    (a ≤ 0x1C → exec (.sidRead a) s = .next { s with outputs := .byte (readReg s a) :: s.outputs })
    ∧ (0x1C < a → exec (.sidRead a) s = .refused .badOperand)

/-- 10_state R46, R50, R51; the bit positions are the standard map of the introduction of 10_state section 6. It rests on choices the spec marks as its own (decisions D3; general knowledge in R46, R50, R51; log 12). -/
def Obligations.PulseWidthAndCutoffFieldsIgnoreUnusedBits : Prop :=
  ∀ (m : Bank) (v : Ix3) (d : Byte), bankWf m = true →
    pwReg m v = regNat m (7 * num v + 3) % 16 * 256 + regNat m (7 * num v + 2) ∧ pwReg m v ≤ 4095
    ∧ cutoff m = regNat m 0x16 * 8 + regNat m 0x15 % 8 ∧ cutoff m ≤ 2047
    ∧ pwReg (writeBank m (7 * num v + 3) d) v = pwReg (writeBank m (7 * num v + 3) (d &&& 0x0F#8)) v
    ∧ readBank (writeBank m (7 * num v + 3) d) (7 * num v + 3) = d
    ∧ cutoff (writeBank m 0x15 d) = cutoff (writeBank m 0x15 (d &&& 0x07#8))
    ∧ readBank (writeBank m 0x15 d) 0x15 = d

/-- 10_state R46, R50, R52, R54, R55 and 30_encoding R88: POTX and POTY are plain storage, the render does not read the read-backs, and the unused bits have no effect. The result list is the model's (log 8). It rests on choices the spec marks as its own (decisions D3, D30, D32, D33, D43, D48, D51; general knowledge in R46, R50, R52, R54, R55; log 12). -/
def Obligations.StorageBytesDoNotReachTheSound : Prop :=
  ∀ (s t : State) (a : Nat) (d e : Byte), bankWf s.sid.reg = true → s.arrivals = [] →
    (0x19 ≤ a → a ≤ 0x1C → exec .sidRender s = .next t → ∃ u, exec .sidRender (storeReg a d s) = .next u
      ∧ u.outputs = t.outputs ∧ u.sid = { t.sid with reg := u.sid.reg })
    ∧ (UnreadBits a d e → exec .sidRender (storeReg a d s) = .next t → ∃ u, exec .sidRender (storeReg a e s) = .next u
      ∧ u.outputs = t.outputs ∧ u.sid = { t.sid with reg := u.sid.reg })

/-- 40 R120, R122; 30_encoding R81. It rests on choices the spec marks as its own (decisions D30, D50; log 12). -/
def Obligations.AdvanceRunsEachVoiceOnItsOwnRegisters : Prop :=
  (∀ (s : State) (c : Nat), s.arrivals = [] →
    exec (.sidAdvance c) s = .next { s with sid := { s.sid with voices :=
      ⟨advanceVoice s.params (regNat s.sid.reg 4) (regNat s.sid.reg 5) (regNat s.sid.reg 6) c s.sid.voices.a0,
        advanceVoice s.params (regNat s.sid.reg 11) (regNat s.sid.reg 12) (regNat s.sid.reg 13) c s.sid.voices.a1,
        advanceVoice s.params (regNat s.sid.reg 18) (regNat s.sid.reg 19) (regNat s.sid.reg 20) c s.sid.voices.a2⟩ } })
    ∧ (∀ (s : State) (c : Int), c < 0 → exec (.sidAdvance c) s = .refused .badOperand)

/-- 20_memory R66, R67, R70; the arrivals are the model's (log 6, 23), and an act moves no program position (log 28). It rests on choices the spec marks as its own (decisions D5, D45; log 12). -/
def Obligations.HostWritesLandBetweenSubSteps : Prop :=
  (∀ (x : HostAct) (s : State), exec (instrOf x) s = .next (applyAct x s))
    ∧ (∀ s, applyActs [] s = s) ∧ (∀ x l s, applyActs (x :: l) s = applyActs l (applyAct x s))
    ∧ ∀ (s : State) (c : Nat) (x y z : List HostAct) (rest : List (List HostAct)),
    (s.arrivals = x :: y :: rest →
      let s1 := applyActs x { advanceSub .i0 c s with arrivals := y :: rest }
      let s2 := applyActs y { advanceSub .i1 c s1 with arrivals := rest }
      exec (.sidAdvance c) s = .next (advanceSub .i2 c s2))
    ∧ (s.arrivals = [x] →
      let s1 := applyActs x { advanceSub .i0 c s with arrivals := [] }
      exec (.sidAdvance c) s = .next (advanceSub .i2 c (advanceSub .i1 c s1)))
    ∧ (s.arrivals = x :: y :: z :: rest →
      let r1 := renderSub .i0 ⟨s, ⟨0, 0⟩, 0⟩
      let r2 := renderSub .i1 { r1 with st := applyActs x { r1.st with arrivals := y :: z :: rest } }
      let r3 := renderSub .i2 { r2 with st := applyActs y { r2.st with arrivals := z :: rest } }
      exec .sidRender s = filterSub { r3 with st := applyActs z { r3.st with arrivals := rest } })
    ∧ (s.arrivals = [x, y] →
      let r1 := renderSub .i0 ⟨s, ⟨0, 0⟩, 0⟩
      let r2 := renderSub .i1 { r1 with st := applyActs x { r1.st with arrivals := [y] } }
      exec .sidRender s = filterSub (renderSub .i2 { r2 with st := applyActs y { r2.st with arrivals := [] } }))
    ∧ (s.arrivals = [x] →
      let r1 := renderSub .i0 ⟨s, ⟨0, 0⟩, 0⟩
      exec .sidRender s = filterSub (renderSub .i2 (renderSub .i1 { r1 with st := applyActs x { r1.st with arrivals := [] } })))
    ∧ (s.arrivals = [] →
      exec .sidRender s = filterSub (renderSub .i2 (renderSub .i1 (renderSub .i0 ⟨s, ⟨0, 0⟩, 0⟩))))

/-- 40 R121, and R120's corner case c = 0. It rests on choices the spec marks as its own (decisions D7, D30; log 12). -/
def Obligations.GateEdgesAtAZeroAdvance : Prop :=
  ∀ s : State, s.arrivals = [] → (∀ v, (voice s v).rc < 32768) →
    ∃ t, exec (.sidAdvance 0) s = .next t ∧ ∀ v,
      ((voice s v).gate = false → ctlBit s v 0 = true →
        voice t v = { voice s v with gate := true, atk := true, ds := true, holdn := true })
      ∧ ((voice s v).gate = true → ctlBit s v 0 = false →
        voice t v = { voice s v with gate := false, atk := false, ds := false })
      ∧ ((voice s v).gate = ctlBit s v 0 → voice t v = voice s v)

/-- 40 R125. It rests on choices the spec marks as its own (decisions D8; log 12). -/
def Obligations.RateCounterFollowsTheMatchCondition : Prop :=
  ∀ (P : SidParams) (ctl ad sr c : Nat) (V : Voice),
    let E := gateEdges ctl V
    let p := periodInForce P ad sr E
    let n := (E.rc + c) % 32768
    (¬(p ≤ n ∧ n < p + c) → advanceVoice P ctl ad sr c V = { E with rc := n })
    ∧ (p ≤ n → n < p + c → advanceVoice P ctl ad sr c V = exponentStep P sr { E with rc := n - p })
    ∧ (E.rc + c < 32768 → ((p ≤ n ∧ n < p + c) ↔ (E.rc < p ∧ p ≤ E.rc + c)))

/-- 40 R123, R124 (entry 0); 10_state R23, with Release where both bits are 0. It rests on choices the spec marks as its own (decisions D3, D13, D52; general knowledge in R124; log 12). -/
def Obligations.PeriodInForceFollowsTheSegment : Prop :=
  ∀ (P : SidParams) (ad sr : Nat) (V : Voice),
    (V.atk = true → periodInForce P ad sr V = prescale P (ad / 16 % 16))
    ∧ (V.atk = false → V.ds = true → periodInForce P ad sr V = prescale P (ad % 16))
    ∧ (V.atk = false → V.ds = false → periodInForce P ad sr V = prescale P (sr % 16))
    ∧ prescale P 0 = 9

/-- 40 R127. It rests on choices the spec marks as its own (decisions D9; log 12). -/
def Obligations.ExponentCounterGatesDecayNotAttack : Prop :=
  ∀ (P : SidParams) (sr : Nat) (V : Voice),
    (V.atk = true → exponentStep P sr V = envelopeStep sr { V with exp := 0 })
    ∧ (V.atk = false → V.exp + 1 = expPeriod P V.env → exponentStep P sr V = envelopeStep sr { V with exp := 0 })
    ∧ (V.atk = false → V.exp + 1 ≠ expPeriod P V.env → exponentStep P sr V = { V with exp := V.exp + 1 })
    ∧ (V.holdn = false → envelopeStep sr V = V)

/-- 40 R128. It rests on choices the spec marks as its own (decisions D10; log 12). -/
def Obligations.AttackStepSaturatesAndEnds : Prop :=
  ∀ (sr : Nat) (V : Voice), V.atk = true → V.holdn = true →
    (V.env + 1 < 255 → envelopeStep sr V = { V with env := V.env + 1 })
    ∧ (255 ≤ V.env + 1 → envelopeStep sr V = { V with env := 255, atk := false })

/-- 40 R129, R130. It rests on choices the spec marks as its own (decisions D10, D11; general knowledge in R130; log 12). -/
def Obligations.DecayAndReleaseStepDown : Prop :=
  ∀ (sr : Nat) (V : Voice), V.atk = false → V.holdn = true →
    (V.ds = true → V.env = 17 * (sr / 16 % 16) → envelopeStep sr V = V)
    ∧ (V.ds = false ∨ V.env ≠ 17 * (sr / 16 % 16) →
      (2 ≤ V.env → envelopeStep sr V = { V with env := V.env - 1 })
      ∧ (V.env ≤ 1 → envelopeStep sr V = { V with env := 0, holdn := false }))

/-- 40 R129: once holdn is clear no step changes the envelope until a rising gate edge. It rests on choices the spec marks as its own (decisions D10, D11; log 12). -/
def Obligations.SilentVoiceStaysSilent : Prop :=
  ∀ (P : SidParams) (ctl ad sr c k : Nat) (V : Voice),
    V.gate = false → V.atk = false → V.ds = false → V.holdn = false → ctl % 2 = 0 →
    (advanceTimes P ctl ad sr c k V).env = V.env ∧ (advanceTimes P ctl ad sr c k V).holdn = false

/-- 40 R133. -/
def Obligations.EnvelopeStaysInRangeAfterAdvance : Prop :=
  ∀ (s t : State) (c : Int), (∀ v, (voice s v).env ≤ 255) → exec (.sidAdvance c) s = .next t → ∀ v, (voice t v).env ≤ 255

/-- 40 R131, with the wrap of the 15-bit counter excluded (log 27). -/
def Obligations.NoPeriodIsSkipped : Prop :=
  ∀ (P : SidParams) (ctl ad sr c : Nat) (V : Voice), gateEdges ctl V = V →
    V.rc < periodInForce P ad sr V → CadenceOk (periodInForce P ad sr V) c →
    (advanceVoice P ctl ad sr c V).rc = (V.rc + c) % periodInForce P ad sr V

/-- The count of period matches behind 40 R131 and R135 (log 27); R135's interval of cycles is not part of it (log 31). -/
def Obligations.AttackLevelCountsThePeriods : Prop :=
  ∀ (P : SidParams) (ctl ad sr c k : Nat) (V : Voice),
    V.gate = true → V.atk = true → V.ds = true → V.holdn = true → ctl % 2 = 1 →
    V.rc < attackPeriod P ad → CadenceOk (attackPeriod P ad) c →
    V.env + (V.rc + k * c) / attackPeriod P ad < 255 →
    (advanceTimes P ctl ad sr c k V).env = V.env + (V.rc + k * c) / attackPeriod P ad
      ∧ (advanceTimes P ctl ad sr c k V).rc = (V.rc + k * c) % attackPeriod P ad
      ∧ (advanceTimes P ctl ad sr c k V).atk = true

/-- W1 of 95_test_vectors; 40 R128, R130, R135. It rests on choices the spec marks as its own (decisions D10, D11; general knowledge in R130; log 12). -/
def Obligations.FullAttackAfter255Periods : Prop :=
  ∀ (P : SidParams) (ctl sr seed k : Nat), ctl % 2 = 1 → sr / 16 % 16 = 15 → 1 ≤ k →
    (k < 255 → (advanceTimes P ctl 0 sr 9 k (Voice.reset seed)).env = k
      ∧ (advanceTimes P ctl 0 sr 9 k (Voice.reset seed)).atk = true)
    ∧ (255 ≤ k → (advanceTimes P ctl 0 sr 9 k (Voice.reset seed)).env = 255
      ∧ (advanceTimes P ctl 0 sr 9 k (Voice.reset seed)).atk = false)

/-- 41 R152 to R154, R175; 10_state R45, R47. The MSB rise is the reading of 90 C2. It rests on choices the spec marks as its own (decisions D3, D15; general knowledge in R45, R47; log 12). -/
def Obligations.AccumulatorUpdateAndCoupling : Prop :=
  ∀ (v : Ix3) (r : Rendering),
    let s := r.st
    let t := (renderSub v r).st
    let a := if ctlBit s v 3 = true ∨ (ctlBit s v 1 = true ∧ s.sid.syncRise = true) then 0
      else ((voice s v).acc + stepOf s v) % 2 ^ 28
    (voice t v).acc = a ∧ (voice t v).pacc = a
      ∧ t.sid.syncRise = (a.testBit 27 && !(voice s v).pacc.testBit 27)
      ∧ t.sid.ringMSB = (if a.testBit 27 then 0x8000000 else 0)
      ∧ ∀ u, u ≠ v → voice t u = voice s u

/-- 41 R157, R158. It rests on choices the spec marks as its own (decisions D16, D17, D28; general knowledge in R158; log 12). -/
def Obligations.NoiseLfsrIsClockedByBit24 : Prop :=
  ∀ (v : Ix3) (r : Rendering),
    let s := r.st
    let t := (renderSub v r).st
    let l := (voice s v).lfsr
    let clocked := ctlBit s v 7 = true ∧ ((voice t v).acc.testBit 24 ≠ (voice s v).pacc.testBit 24 ∨ 2 ^ 24 ≤ stepOf s v)
    (clocked → (voice t v).lfsr = l * 2 % 2 ^ 23 + (if l.testBit 22 ≠ l.testBit 17 ∨ ctlBit s v 3 = true then 1 else 0))
      ∧ (¬clocked → (voice t v).lfsr = l)

/-- 41 R159, R160. It rests on choices the spec marks as its own (decisions D19; general knowledge in R159; log 12). -/
def Obligations.NoiseOutputGathersEightTaps : Prop :=
  ∀ (P : SidParams) (x : WaveIn),
    (x.wf = 8 → (selectWave P x).w = (([20, 18, 14, 11, 9, 5, 2, 0].zip [15, 14, 13, 12, 11, 10, 9, 8]).map
      (fun y => if (selectWave P x).lfsr.testBit y.1 then 2 ^ y.2 else 0)).sum)
    ∧ (9 ≤ x.wf → x.wf ≤ 15 → (selectWave P x).w = 0)

/-- 41 R156, for every value of the parameters. It rests on choices the spec marks as its own (decisions D23; log 12). -/
def Obligations.WaveformValueFitsIn16Bits : Prop :=
  ∀ (P : SidParams) (x : WaveIn), x.acc < 2 ^ 28 → x.pwav ≤ 0xFFFF → x.pblend ≤ 0xFFFF → x.freqHi ≤ 0xFF →
    x.rsrc = 0 ∨ x.rsrc = 2 ^ 27 → x.wf ≤ 15 →
    (selectWave P x).w ≤ 0xFFFF ∧ (selectWave P x).pblend ≤ 0xFFFF

/-- 41 R155, R170 to R173. It rests on choices the spec marks as its own (decisions D21, D24; general knowledge in R171; log 12). -/
def Obligations.TriangleAndSawtoothShapes : Prop :=
  (∀ acc : Nat, acc < 2 ^ 28 →
    (acc < 2 ^ 27 → triangle acc 0 = acc / 2 ^ 11) ∧ (2 ^ 27 ≤ acc → triangle acc 0 = (2 ^ 28 - 1 - acc) / 2 ^ 11)
    ∧ triangle acc (2 ^ 27) = triangle ((acc + 2 ^ 27) % 2 ^ 28) 0 ∧ triangle acc 0 ≤ 0xFFFF)
    ∧ (∀ (P : SidParams) (w0 step : Nat), w0 ≤ 0xFFFF →
      let k := max 1 (step / 16 / P.sawK)
      let y := w0 + w0 * k / 2 ^ 16
      (y ≤ 0xFFFF → saw P w0 step = y)
      ∧ (0x10000 ≤ y → saw P w0 step + (y - 0x10000) * 2 ^ 16 / k = 0xFFFF)
      ∧ (step / 16 / P.sawK ≤ 1 → saw P w0 step = w0))
    ∧ ∀ (P : SidParams) (x : WaveIn),
      (x.wf = 1 → selectWave P x = ⟨triangle x.acc x.rsrc, x.lfsr, x.pblend⟩)
      ∧ (x.wf = 2 → selectWave P x = ⟨saw P (x.acc / 2 ^ 12) x.step, x.lfsr, x.pblend⟩)
      ∧ (x.wf = 3 → selectWave P x = ⟨(Config.combTS x.model (x.acc / 2 ^ 16)).toNat, x.lfsr, x.pblend⟩)

/-- 41 R150, R152, R155, R174; 10_state R45 to R47. It rests on choices the spec marks as its own (decisions D3, D15, D25; general knowledge in R45, R46, R47; log 12). -/
def Obligations.FloatingOutputHoldsTheLastWaveform : Prop :=
  ∀ (v : Ix3) (r : Rendering),
    let s := r.st
    let o := renderSub v r
    let ctl := regNat s.sid.reg (7 * num v + 4)
    let x := waveOf v s
    (x.wf = ctl / 16 % 16 ∧ x.test = ctl.testBit 3 ∧ x.rsrc = (if ctl.testBit 2 then s.sid.ringMSB else 0)
      ∧ x.step = stepOf s v ∧ x.pwreg = pwReg s.sid.reg v ∧ x.freqHi = regNat s.sid.reg (7 * num v + 1)
      ∧ x.model = s.sid.cfg.model ∧ x.acc = (voice o.st v).acc ∧ x.pacc = (voice s v).pacc ∧ x.lfsr = (voice s v).lfsr
      ∧ x.pwav = (voice s v).pwav ∧ x.pblend = (voice s v).pblend)
    ∧ (o.w = (selectWave s.params x).w ∧ (voice o.st v).lfsr = (selectWave s.params x).lfsr
      ∧ (voice o.st v).pblend = (selectWave s.params x).pblend)
    ∧ (ctl / 16 % 16 = 0 → o.w = (voice s v).pwav ∧ (voice o.st v).pwav = (voice s v).pwav
      ∧ (ctlBit s v 3 = false → ctlBit s v 1 = false → (voice o.st v).acc = ((voice s v).acc + stepOf s v) % 2 ^ 28))
    ∧ (ctl / 16 % 16 ≠ 0 → (voice o.st v).pwav = o.w)

/-- 41 R164, R166 to R169. It rests on choices the spec marks as its own (decisions D21, D22; log 12). -/
def Obligations.LowCombinedPulseIsZeroAndKeepsTheBlend : Prop :=
  ∀ (P : SidParams) (x : WaveIn), x.wf = 5 ∨ x.wf = 6 ∨ x.wf = 7 →
    let low := ((x.acc / 2 ^ 12 : Nat) : Int) < pulseWidth P x.pwreg x.step ∧ x.test = false
    let entry := if x.wf = 5 then Config.combPT x.model ((x.acc ^^^ x.rsrc) / 2 ^ 16)
      else if x.wf = 6 then Config.combPS x.model (x.acc / 2 ^ 16) else Config.combPTS x.model (x.acc / 2 ^ 16)
    let f := 0x7777 + 0x8888 / max x.freqHi 1
    let b := (entry.toNat * f + x.pblend * (0xFFFF - f)) / 2 ^ 16
    (low → (selectWave P x).w = 0 ∧ (selectWave P x).pblend = x.pblend)
    ∧ (¬low → (selectWave P x).w = b ∧ (selectWave P x).pblend = b)

/-- 41 R155, R161 to R163. It rests on choices the spec marks as its own (decisions D20; general knowledge in R162, R163; log 12). -/
def Obligations.PulseWidthIsCorrectedIntoRange : Prop :=
  (∀ (P : SidParams) (pwreg step : Nat), pwreg ≤ 0xFFF → step >>> P.pwMinShift ≤ 0xFFFF →
    let t := step >>> P.pwMinShift
    0 ≤ pulseWidth P pwreg step ∧ pulseWidth P pwreg step ≤ 0xFFFF - (t : Int)
    ∧ (t ≤ pwreg * 16 → pwreg * 16 + t ≤ 0xFFFF → pulseWidth P pwreg step = (pwreg : Int) * 16)
    ∧ (1 ≤ pwreg → pwreg * 16 < t → t + t ≤ 0xFFFF → pulseWidth P pwreg step = (t : Int))
    ∧ (1 ≤ pwreg → 0xFFFF < max (pwreg * 16) t + t → pulseWidth P pwreg step = 0xFFFF - (t : Int))
    ∧ (pwreg = 0 → pulseWidth P pwreg step = 0
      ∧ ∀ (ph : Nat) (test : Bool), ph ≤ 0xFFFF → trapezoid P ph (pulseWidth P pwreg step) step test = 0xFFFF))
    ∧ (∀ (P : SidParams) (ph : Nat) (pw : Int) (step : Nat),
      let st : Int := if P.trapMinStep ≤ step then ((0xFFFFFFF / step : Nat) : Int) else 0xFFFF
      let d := (0xFFFF - (ph : Int)) * st - min (pw * st) 0xFFFF
      trapezoid P ph pw step true = 0xFFFF
      ∧ ((ph : Int) < pw → trapezoid P ph pw step false = max (min ((0xFFFF - pw) * st) 0xFFFF - (pw - ph) * st) 0)
      ∧ (pw ≤ ph → 0 ≤ d → trapezoid P ph pw step false = 0xFFFF)
      ∧ (pw ≤ ph → d < 0 → trapezoid P ph pw step false = 0x10000 + d))
    ∧ ∀ (P : SidParams) (x : WaveIn), x.wf = 4 → x.acc < 2 ^ 28 →
      ((selectWave P x).w : Int) = trapezoid P (x.acc / 2 ^ 12) (pulseWidth P x.pwreg x.step) x.step x.test
      ∧ (selectWave P x).lfsr = x.lfsr ∧ (selectWave P x).pblend = x.pblend

/-- 42 R201 to R203, R212; 10_state R52, R53; the bits are read in the voice sub-step (log 22). It rests on choices the spec marks as its own (decisions D3, D23, D26, D51, D53; general knowledge in R52, R53, R201; log 12). -/
def Obligations.RoutingByFilterBitAnd3Off : Prop :=
  (∀ (m : Bank) (v : Ix3) (c : Int) (x : Mix),
    let filt := (regNat m 0x17).testBit (num v)
    let off := (regNat m 0x18).testBit 7
    (v ≠ .i2 ∨ off = false → ∀ scope,
      (filt = true → route scope m v c x = { x with filtIn := x.filtIn + c })
      ∧ (filt = false → route scope m v c x = { x with unfilt := x.unfilt + c }))
    ∧ (v = .i2 → off = true → route .full m v c x = x
      ∧ (filt = true → route .unfilteredOnly m v c x = { x with filtIn := x.filtIn + c })
      ∧ (filt = false → route .unfilteredOnly m v c x = x))
    ∧ ∀ w dac : Nat, contribution w dac = ((w : Int) - 0x8000) * dac / 256 ∧ envDac .mos8580 dac = dac)
    ∧ ∀ (v : Ix3) (r : Rendering),
      let s := r.st
      let e := match s.sid.cfg.model with
        | .mos8580 => (voice s v).env
        | .mos6581 => (Config.envDac6581 (voice s v).env).toNat
      (renderSub v r).mix = route s.params.off3Scope s.sid.reg v ((((renderSub v r).w : Int) - 0x8000) * e / 256) r.mix

/-- 42 R205 to R209; 10_state R50 to R53. It rests on choices the spec marks as its own (decisions D3, D41, D42, D51; general knowledge in R50, R51, R52, R53, R207, R208, R209; log 12). -/
def Obligations.FilterTapsFollowTheIntegrators : Prop :=
  (∀ (filtIn pBP pLP cut res : Int),
    let hp := filtIn + pBP * res / 4096 + pLP
    let bp := pBP - hp * cut / 4096
    integrate filtIn pBP pLP cut res = ⟨hp, bp, pLP + bp * cut / 4096⟩)
    ∧ (∀ (m : Bank) (t : Taps), filterOut m t = (if (regNat m 0x18).testBit 6 then -t.hp else 0)
      + (if (regNat m 0x18).testBit 5 then -t.bp else 0) + (if (regNat m 0x18).testBit 4 then t.lp else 0))
    ∧ ∀ r : Rendering,
      let c := r.st.sid
      let fc := regNat c.reg 0x16 * 8 + regNat c.reg 0x15 % 8
      let cut := match c.cfg.model with
        | .mos8580 => Config.cutoffMul .mos8580 fc
        | .mos6581 => Config.cutoffMul .mos6581 (max 0 (min 2047 ((fc : Int) + r.mix.filtIn * r.st.params.vcrK / 65536))).toNat
      renderTaps r = integrate r.mix.filtIn c.pBP c.pLP cut (Config.resonance c.cfg.model (regNat c.reg 0x17 / 16 % 16))

/-- 42 R208, R210 to R213; 10_state R53. The result list is the model's (log 8). It rests on choices the spec marks as its own (decisions D3, D30, D31, D41, D46; general knowledge in R53, R208, R211; log 12). -/
def Obligations.RenderCompletesWhenInRange : Prop :=
  (∀ r : Rendering, renderOut r = Int.tdiv ((r.mix.unfilt + filterOut r.st.sid.reg (renderTaps r))
    * ((regNat r.st.sid.reg 0x18 % 16 : Nat) : Int)) ((r.st.params.channelCount : Int) * 15 + r.st.sid.cfg.attenuation))
    ∧ ∀ s : State,
    let r := renderVoices s
    inInt32 (renderTaps r).bp = true → inInt32 (renderTaps r).lp = true → inInt32 (renderOut r) = true →
    exec .sidRender s = .next
      { r.st with
        sid :=
          { r.st.sid with
            pBP := (renderTaps r).bp
            pLP := (renderTaps r).lp
            reg := writeBank (writeBank r.st.sid.reg 0x1B (BitVec.ofNat 8 (r.w / 256))) 0x1C
              (BitVec.ofNat 8 r.st.sid.voices.a2.env) }
        outputs := .sample (renderOut r) :: r.st.outputs }

/-- 42 R213, 60 R302; the reading of log 15. It rests on choices the spec marks as its own (decisions D31, D56; log 12). -/
def Obligations.RenderFaultLeavesTheStateOfTheRule : Prop :=
  ∀ s : State, s.arrivals = [] →
    let r := renderVoices s
    (inInt32 (renderTaps r).bp = false → exec .sidRender s = .fault (.numericRange .pBP r.st))
    ∧ (inInt32 (renderTaps r).bp = true → inInt32 (renderTaps r).lp = false →
      exec .sidRender s = .fault (.numericRange .pLP r.st))
    ∧ (inInt32 (renderTaps r).bp = true → inInt32 (renderTaps r).lp = true → inInt32 (renderOut r) = false →
      exec .sidRender s = .fault (.numericRange .out
        { r.st with sid := { r.st.sid with pBP := (renderTaps r).bp, pLP := (renderTaps r).lp } }))
    ∧ r.st.sid.pBP = s.sid.pBP ∧ r.st.sid.pLP = s.sid.pLP ∧ r.st.sid.reg = s.sid.reg

/-- 42 R214, with the divisor of R210 written out. That a quiet filter's render completes is not in R214; it follows from 42 R201 to R203, R208 to R210, R212 and R213, with the widths of 41 R156 and 10_state R25, R27 to R31 and the 8 bits of ENV_DAC (log 11). The result list is the model's (log 8), and that nothing falls inside the render is said of its arrivals (log 6). It rests on choices the spec marks as its own (decisions D18, D23, D26, D29, D31, D41, D46, D53; general knowledge in R28, R201, R208, R209; log 12). -/
def Obligations.FilterPassThrough : Prop :=
  ∀ s : State, s.arrivals = [] → (∀ v, (regNat s.sid.reg 0x17).testBit (num v) = false) →
    (∀ k, 4 ≤ k → k ≤ 6 → (regNat s.sid.reg 0x18).testBit k = false) →
    let sample := Int.tdiv ((renderVoices s).mix.unfilt * ((regNat s.sid.reg 0x18 % 16 : Nat) : Int))
      ((s.params.channelCount : Int) * 15 + s.sid.cfg.attenuation)
    (∀ t, exec .sidRender s = .next t → t.outputs = .sample sample :: s.outputs)
    ∧ (s.sid.pBP = 0 → s.sid.pLP = 0 → TriAll WaveOk s.sid.voices → (∀ v, (voice s v).env ≤ 255) → ChipOk s.sid →
      1 ≤ divisor s.params s.sid.cfg → ∃ t, exec .sidRender s = .next t ∧ t.sid.pBP = 0 ∧ t.sid.pLP = 0)

/-- 42 R211. It rests on choices the spec marks as its own (decisions D30; general knowledge in R211; log 12). -/
def Obligations.ReadBacksSampleVoiceTwo : Prop :=
  ∀ s t : State, bankWf s.sid.reg = true → exec .sidRender s = .next t →
    readReg t 0x1B = BitVec.ofNat 8 ((renderVoices s).w / 256) ∧ readReg t 0x1C = BitVec.ofNat 8 (voice s .i2).env
    ∧ (renderVoices s).w = (renderSub .i2 (renderPoint (renderSub .i1 (renderPoint (renderSub .i0 ⟨s, ⟨0, 0⟩, 0⟩))))).w

/-- 42 R212, State written, and R215 for pVol; 10_state R21, R32, R39; 60 R310. Queue and position are the model's (log 1) and are moved by step, not by exec (10_state R41); the parameters are log 10, the arrivals log 6 and the result list log 8. It rests on choices the spec marks as its own (decisions D1, D29, D35; log 12). -/
def Obligations.RenderLeavesTheRestUnchanged : Prop :=
  ∀ s t : State, s.arrivals = [] → exec .sidRender s = .next t →
    (∀ v, (voice t v).gate = (voice s v).gate ∧ (voice t v).atk = (voice s v).atk ∧ (voice t v).ds = (voice s v).ds
      ∧ (voice t v).holdn = (voice s v).holdn ∧ (voice t v).rc = (voice s v).rc ∧ (voice t v).env = (voice s v).env
      ∧ (voice t v).exp = (voice s v).exp)
    ∧ (∀ a, a ≠ 0x1B → a ≠ 0x1C → readReg t a = readReg s a)
    ∧ t.sid.pVol = s.sid.pVol ∧ t.sid.cfg = s.sid.cfg ∧ t.sn = s.sn ∧ t.params = s.params ∧ t.queue = s.queue
    ∧ t.pos = s.pos ∧ t.arrivals = [] ∧ ∃ x, t.outputs = .sample x :: s.outputs

/-- 43 R241 to R243, R245 to R247; 30_encoding R83. It rests on choices the spec marks as its own (decisions D32, D33, D34; general knowledge in R83, R243, R245; log 12). -/
def Obligations.LatchAndDataRowsSetTheirRegister : Prop :=
  ∀ (s : State) (d : Nibble) (x m : BitVec 1) (rr : BitVec 2) (h : BitVec 6),
    let g := s.sn
    let low (t : Tone) : Tone := { t with freq := (t.freq &&& 0x3F0) ||| d.toNat }
    let vol (t : Tone) : Tone := { t with vol := d.toNat }
    let high (t : Tone) : Tone := { t with freq := (h.toNat * 16) ||| (t.freq % 16) }
    SetsSn (.snLatchTone0Freq d) s (tonePut g 0 .i0 (low g.tones.a0))
    ∧ SetsSn (.snLatchTone0Vol d) s (tonePut g 1 .i0 (vol g.tones.a0))
    ∧ SetsSn (.snLatchTone1Freq d) s (tonePut g 2 .i1 (low g.tones.a1))
    ∧ SetsSn (.snLatchTone1Vol d) s (tonePut g 3 .i1 (vol g.tones.a1))
    ∧ SetsSn (.snLatchTone2Freq d) s (tonePut g 4 .i2 (low g.tones.a2))
    ∧ SetsSn (.snLatchTone2Vol d) s (tonePut g 5 .i2 (vol g.tones.a2))
    ∧ SetsSn (.snLatchNoiseCtrl x m rr) s
      (noisePut g 6 { g.noise with mode := decide (m = 1#1), rate := rr.toNat, seed := g.cfg.noiseSeed })
    ∧ SetsSn (.snLatchNoiseVol d) s (noisePut g 7 { g.noise with vol := d.toNat })
    ∧ (g.adr = 0 → SetsSn (.snData x h) s (tonePut g 0 .i0 (high g.tones.a0)))
    ∧ (g.adr = 2 → SetsSn (.snData x h) s (tonePut g 2 .i1 (high g.tones.a1)))
    ∧ (g.adr = 4 → SetsSn (.snData x h) s (tonePut g 4 .i2 (high g.tones.a2)))
    ∧ (g.adr ≠ 0 → g.adr ≠ 2 → g.adr ≠ 4 → SetsSn (.snData x h) s g)

/-- 43 R240, 30_encoding R82, R83. It rests on choices the spec marks as its own (decisions D32; general knowledge in R82, R83, R240; log 12). -/
def Obligations.SnWriteRunsTheRowOfItsByte : Prop :=
  (∀ (s : State) (b : Byte), exec (.snWrite b.toNat) s = exec (decodeSnBus b) s
      ∧ ∃ g, exec (.snWrite b.toNat) s = .next { s with sn := g })
    ∧ ∀ (s : State) (b : Int), 0xFF < b ∨ b < 0 → exec (.snWrite b) s = .refused .badOperand

/-- 20_memory R69. -/
def Obligations.SnWriteTwiceIsOnce : Prop :=
  ∀ (s t : State) (b : Byte), exec (.snWrite b.toNat) s = .next t → exec (.snWrite b.toNat) t = .next t

/-- 43 R268, which follows from R245; the byte is that of 30_encoding R82 to R84. It rests on choices the spec marks as its own (decisions D32, D34; general knowledge in R82, R83, R84, R245; log 12). -/
def Obligations.NoiseControlReseedsTheLfsr : Prop :=
  ∀ (s : State) (b : Byte), b.toNat / 16 = 0xE →
    ∃ t, exec (.snWrite b.toNat) s = .next t ∧ t.sn.noise.seed = s.sn.cfg.noiseSeed

/-- 43 R248, R249. It rests on choices the spec marks as its own (decisions D39; log 12). -/
def Obligations.StereoMaskAndMuteAreSet : Prop :=
  ∀ (s : State),
    (∀ b : Byte, SetsSn (.snGgWrite b.toNat) s { s.sn with stereo := b })
    ∧ (∀ (i : Ix3) (f : Bool), SetsSn (.snSetMute (num i) (if f then 1 else 0)) s
      { s.sn with tones := triSet s.sn.tones i { triGet s.sn.tones i with mute := f } })
    ∧ (∀ b : Int, b < 0 ∨ 0xFF < b → exec (.snGgWrite b) s = .refused .badOperand)
    ∧ (∀ i f : Int, i < 0 ∨ 2 < i ∨ f < 0 ∨ 1 < f → exec (.snSetMute i f) s = .refused .badOperand)

/-- 43 R251, R252. It rests on choices the spec marks as its own (decisions D37; log 12). -/
def Obligations.LowDividerForcesTheEdgeHigh : Prop :=
  ∀ (g : Sn) (i : Ix3) (n : Nat), (triGet g.tones i).freq ≤ 1 →
    (triGet (repeatUnit (n + 1) g).tones i).edge = true ∧ (triGet (repeatUnit (n + 1) g).tones i).cnt = 0

/-- 43 R251: a square wave of period 2N units. It rests on choices the spec marks as its own (decisions D37; log 12). -/
def Obligations.ToneTogglesEveryDividerUnits : Prop :=
  ∀ (g : Sn) (i : Ix3) (n : Nat), 2 ≤ (triGet g.tones i).freq → (triGet g.tones i).cnt = 0 →
    (n < (triGet g.tones i).freq → (triGet (repeatUnit n g).tones i).edge = (triGet g.tones i).edge
      ∧ (triGet (repeatUnit n g).tones i).cnt = n)
    ∧ (n = (triGet g.tones i).freq → (triGet (repeatUnit n g).tones i).edge = !(triGet g.tones i).edge
      ∧ (triGet (repeatUnit n g).tones i).cnt = 0)

/-- 43 R253, R254. It rests on choices the spec marks as its own (decisions D34; general knowledge in R253, R254; log 12). -/
def Obligations.NoiseShiftsOncePerPeriod : Prop :=
  ∀ g : Sn, g.noise.rate ≤ 3 → g.noise.seed ≤ 0xFFFF →
    let np := if g.noise.rate = 3 then max 1 (g.cfg.frefMult * g.tones.a2.freq) else 32 * 2 ^ g.noise.rate
    let fb := if g.noise.mode then parity (g.noise.seed &&& g.cfg.whiteTap) else g.noise.seed.testBit 0
    let n := (unitStep g).noise
    (np ≤ g.noise.cnt + 1 → n.cnt = 0 ∧ n.seed = g.noise.seed / 2 + (if fb then 0x8000 else 0))
    ∧ (g.noise.cnt + 1 < np → n.cnt = g.noise.cnt + 1 ∧ n.seed = g.noise.seed)
    ∧ n.mode = g.noise.mode ∧ n.rate = g.noise.rate ∧ n.vol = g.noise.vol

/-- 43 R249 (the mute flag's effect), R250, R252, R255, R256. It rests on choices the spec marks as its own (decisions D36, D38, D39, D47; general knowledge in R255, R256; log 12). -/
def Obligations.RunningOutputApproachesItsTarget : Prop :=
  (∀ (k : Nat) (t c : Int),
    (t < c → t ≤ smooth k t c ∧ smooth k t c < c)
    ∧ (c + 2 ^ k ≤ t → c < smooth k t c ∧ smooth k t c ≤ t)
    ∧ (c ≤ t → t < c + 2 ^ k → smooth k t c = c)
    ∧ smooth 1 t c = (c + t) / 2)
    ∧ ∀ g : Sn,
      let vol (n : Nat) : Int := ((g.cfg.volTable.getD n 0 : Nat) : Int)
      let g' := unitStep g
      (∀ i : Ix3,
        let t := triGet g.tones i
        let t' := triGet g'.tones i
        t'.chout = smooth g.cfg.smoothShift (if t'.edge = true ∧ t.mute = false then vol t.vol else 0) t.chout
        ∧ t'.vol = t.vol ∧ t'.freq = t.freq ∧ t'.mute = t.mute)
      ∧ g'.noise.chout = smooth g.cfg.smoothShift (if g'.noise.seed.testBit 0 = true then vol g.noise.vol else 0) g.noise.chout

/-- 43 R260, R265, with the range of 10_state R38; the list of results is the model's (log 8). -/
def Obligations.SnStepReturnsTheMonoSum : Prop :=
  ∀ s : State,
    let g := rateAdvance s.sn
    exec .snStep s = .next { s with
      sn := g, outputs := .sample (g.tones.a0.chout + g.tones.a1.chout + g.tones.a2.chout + g.noise.chout) :: s.outputs }
    ∧ (SnOk s.sn → 0 ≤ g.tones.a0.chout + g.tones.a1.chout + g.tones.a2.chout + g.noise.chout
      ∧ g.tones.a0.chout + g.tones.a1.chout + g.tones.a2.chout + g.noise.chout ≤ 4 * volMax s.sn.cfg)
    ∧ g.adr = s.sn.adr ∧ g.stereo = s.sn.stereo ∧ g.cfg = s.sn.cfg

/-- 43 R266, R267; the result list is the model's (log 8). It rests on choices the spec marks as its own (general knowledge in R266; log 12). -/
def Obligations.SnStepStereoReturnsTheMaskedSums : Prop :=
  ∀ s : State,
    let g := rateAdvance s.sn
    let out (k : Nat) : Int := ([g.tones.a0.chout, g.tones.a1.chout, g.tones.a2.chout, g.noise.chout]).getD k 0
    let side (b : Nat) : Int := ((List.range 4).map (fun k => if s.sn.stereo.toNat.testBit (b + k) then out k else 0)).sum
    exec .snStepStereo s = .next { s with sn := g, outputs := .stereo (side 4) (side 0) :: s.outputs }
    ∧ (s.sn.stereo = 0xFF#8 → side 4 = out 0 + out 1 + out 2 + out 3 ∧ side 0 = out 0 + out 1 + out 2 + out 3)
    ∧ (s.sn.stereo = 0x00#8 → side 4 = 0 ∧ side 0 = 0)

/-- 43 R262 to R264. It rests on choices the spec marks as its own (decisions D35, D36; general knowledge in R262, R263; log 12). -/
def Obligations.RateConverterRunsTheUnitsOfItsMode : Prop :=
  ∀ g : Sn,
    let b := g.bacc + g.cfg.baseIncr
    let real := 2 ^ 31 / g.cfg.sampleRate
    let unit := 2 ^ 31 / (g.cfg.clock / 16)
    let u := (real - g.stime + unit - 1) / unit
    (g.cfg.quality = false → rateAdvance g = { repeatUnit (b / 2 ^ 24) g with bacc := b % 2 ^ 24 })
    ∧ (g.cfg.quality = true → 1 ≤ unit →
      rateAdvance g = { repeatUnit u g with stime := g.stime + u * unit - real }
      ∧ real ≤ g.stime + u * unit ∧ (g.stime < real → g.stime + u * unit - real < unit) ∧ (real ≤ g.stime → u = 0))

/-- 70 R320, R324; ATTENUATION is a natural (00_scope R7, 30_encoding R81; log 16); the operand codes 6581 and 8580 are log 2. It rests on choices the spec marks as its own (decisions D14, D46, D50; general knowledge in R7; log 12). -/
def Obligations.SidCreateGivesAZeroedInstance : Prop :=
  ∀ (s : State) (model : ChipModel) (rate hz ratio att : Nat), 1 ≤ rate → 1 ≤ hz → 1 ≤ ratio → ratio ≤ 4096 →
    1 ≤ (s.params.channelCount : Int) * 15 + att →
    ∃ t, exec (.sidCreate (match model with | .mos6581 => 6581 | .mos8580 => 8580) ⟨rate, hz, ratio, att⟩) s = .next t
      ∧ (∀ a, readReg t a = 0#8)
      ∧ (∀ v, voice t v = ⟨false, false, false, false, 0, 0, 0, 0, 0, s.params.noiseSeed, 0, 0⟩)
      ∧ t = { s with sid := ⟨t.sid.reg, t.sid.voices, false, 0, 0, 0, 0, ⟨model, rate, hz, ratio, att⟩⟩ }

/-- 70 R321. It rests on choices the spec marks as its own (decisions D18; general knowledge in R321; log 12). -/
def Obligations.SidResetKeepsTheBank : Prop :=
  ∀ s : State, ∃ t, exec .sidReset s = .next t
    ∧ (∀ v, voice t v = ⟨false, false, false, false, 0, 0, 0, 0, 0, s.params.noiseSeed, 0, 0⟩)
    ∧ t = { s with sid := ⟨s.sid.reg, t.sid.voices, false, 0, 0, 0, 0, s.sid.cfg⟩ }

/-- 70 R322, R323; the operand checks of log 17. It rests on choices the spec marks as its own (decisions D35, D40; general knowledge in R323; log 12). -/
def Obligations.SnCreateAndResetGiveTheResetGenerator : Prop :=
  ∀ (s : State) (cfg : SnArgs),
    let tone : Tone := ⟨0, 15, false, false, 0, 0⟩
    let fresh (c : SnConfig) : Sn := ⟨⟨tone, tone, tone⟩, ⟨15, false, 0, c.noiseSeed, 0, 0⟩, 0, 0, 0, 0xFF#8, c⟩
    SetsSn .snReset s (fresh s.sn.cfg)
    ∧ (cfg.ok = true → SetsSn (.snCreate cfg) s (fresh ⟨decide (cfg.quality = 1), cfg.clock.toNat, cfg.sampleRate.toNat,
      cfg.baseIncr.toNat, cfg.volTable.map Int.toNat, cfg.smoothShift.toNat, cfg.whiteTap.toNat, cfg.noiseSeed.toNat,
      cfg.frefMult.toNat⟩))

/-- 10_state R31, R32, R39; 00_scope R9; 42 R215. Queue and position are the model's (log 1) and are moved by step, not by exec (10_state R41); the parameters are log 10. It rests on choices the spec marks as its own (decisions D1, D29, D35; log 12). -/
def Obligations.ConfigurationIsFixedAtCreation : Prop :=
  ∀ (i : Instr) (s t : State), exec i s = .next t →
    t.params = s.params ∧ t.queue = s.queue ∧ t.pos = s.pos
    ∧ ((∀ m ctx, i ≠ .sidCreate m ctx) → t.sid.cfg = s.sid.cfg)
    ∧ ((∀ c, i ≠ .snCreate c) → t.sn.cfg = s.sn.cfg)
    ∧ (t.sid.pVol = s.sid.pVol ∨ t.sid.pVol = 0)

/-- 60 R310, R313; 10_state R21. The model has one instance of each chip (log 13). -/
def Obligations.TheTwoChipsAreIsolated : Prop :=
  (∀ (i : Instr) (s t : State), s.arrivals = [] → exec i s = .next t →
    (actsOnSid i = true → t.sn = s.sn) ∧ (actsOnSid i = false → t.sid = s.sid)
    ∧ (i = .sidReset ∨ i = .sidRender ∨ (∃ c, i = .sidAdvance c) → ∀ a, a ≠ 0x1B → a ≠ 0x1C → readReg t a = readReg s a))
    ∧ ∀ (i : Instr) (s : State) (c : Sid) (g : Sn), s.arrivals = [] →
      (actsOnSid i = true → exec i { s with sn := g } = mapOutcome (fun t => { t with sn := g }) (exec i s))
      ∧ (actsOnSid i = false → exec i { s with sid := c } = mapOutcome (fun t => { t with sid := c }) (exec i s))

/-- 10_state R22 to R38, 40 R133, 41 R176, 43 R269. It rests on choices the spec marks as its own (decisions D6, D18, D23, D29, D34, D37; general knowledge in R28, R37; log 12). -/
def Obligations.StepKeepsEveryRange : Prop :=
  ∀ s t : State, Inv s → step s = .next t → Inv t

/-- 70 R324; the values of log 9 and 10. -/
def Obligations.ResetIsInEveryRange : Prop :=
  Inv State.reset
end

