-- ==== Sys2Proof/Laws/State.lean ====
section
/-! SUPPORT. What each update of the state leaves in each field: one lemma per field per update, true by `rfl`, so that no
later proof unfolds a record update. -/

namespace Sys2Proof.Laws

open Sys2Proof.Machine

section
variable (s : State) (a : Nat) (d : Byte) (o : Output) (f : Sn → Sn) (t : Taps) (w : Nat) (c : Code)

-- storeReg
@[simp] theorem storeReg_sn : (storeReg a d s).sn = s.sn := rfl
@[simp] theorem storeReg_params : (storeReg a d s).params = s.params := rfl
@[simp] theorem storeReg_queue : (storeReg a d s).queue = s.queue := rfl
@[simp] theorem storeReg_pos : (storeReg a d s).pos = s.pos := rfl
@[simp] theorem storeReg_arrivals : (storeReg a d s).arrivals = s.arrivals := rfl
@[simp] theorem storeReg_outputs : (storeReg a d s).outputs = s.outputs := rfl
@[simp] theorem storeReg_sid_reg : (storeReg a d s).sid.reg = writeBank s.sid.reg a d := rfl
@[simp] theorem storeReg_sid_voices : (storeReg a d s).sid.voices = s.sid.voices := rfl
@[simp] theorem storeReg_sid_syncRise : (storeReg a d s).sid.syncRise = s.sid.syncRise := rfl
@[simp] theorem storeReg_sid_ringMSB : (storeReg a d s).sid.ringMSB = s.sid.ringMSB := rfl
@[simp] theorem storeReg_sid_pLP : (storeReg a d s).sid.pLP = s.sid.pLP := rfl
@[simp] theorem storeReg_sid_pBP : (storeReg a d s).sid.pBP = s.sid.pBP := rfl
@[simp] theorem storeReg_sid_pVol : (storeReg a d s).sid.pVol = s.sid.pVol := rfl
@[simp] theorem storeReg_sid_cfg : (storeReg a d s).sid.cfg = s.sid.cfg := rfl

-- returnOutput and returnByte
@[simp] theorem returnOutput_sid : (returnOutput o s).sid = s.sid := rfl
@[simp] theorem returnOutput_sn : (returnOutput o s).sn = s.sn := rfl
@[simp] theorem returnOutput_params : (returnOutput o s).params = s.params := rfl
@[simp] theorem returnOutput_queue : (returnOutput o s).queue = s.queue := rfl
@[simp] theorem returnOutput_pos : (returnOutput o s).pos = s.pos := rfl
@[simp] theorem returnOutput_arrivals : (returnOutput o s).arrivals = s.arrivals := rfl
@[simp] theorem returnOutput_outputs : (returnOutput o s).outputs = o :: s.outputs := rfl
@[simp] theorem returnByte_sid : (returnByte d s).sid = s.sid := rfl
@[simp] theorem returnByte_sn : (returnByte d s).sn = s.sn := rfl
@[simp] theorem returnByte_params : (returnByte d s).params = s.params := rfl
@[simp] theorem returnByte_queue : (returnByte d s).queue = s.queue := rfl
@[simp] theorem returnByte_pos : (returnByte d s).pos = s.pos := rfl
@[simp] theorem returnByte_arrivals : (returnByte d s).arrivals = s.arrivals := rfl
@[simp] theorem returnByte_outputs : (returnByte d s).outputs = .byte d :: s.outputs := rfl

-- onSn
@[simp] theorem onSn_sid : (onSn f s).sid = s.sid := rfl
@[simp] theorem onSn_sn : (onSn f s).sn = f s.sn := rfl
@[simp] theorem onSn_params : (onSn f s).params = s.params := rfl
@[simp] theorem onSn_queue : (onSn f s).queue = s.queue := rfl
@[simp] theorem onSn_pos : (onSn f s).pos = s.pos := rfl
@[simp] theorem onSn_arrivals : (onSn f s).arrivals = s.arrivals := rfl
@[simp] theorem onSn_outputs : (onSn f s).outputs = s.outputs := rfl

-- storeTaps
@[simp] theorem storeTaps_sn : (storeTaps t s).sn = s.sn := rfl
@[simp] theorem storeTaps_params : (storeTaps t s).params = s.params := rfl
@[simp] theorem storeTaps_queue : (storeTaps t s).queue = s.queue := rfl
@[simp] theorem storeTaps_pos : (storeTaps t s).pos = s.pos := rfl
@[simp] theorem storeTaps_arrivals : (storeTaps t s).arrivals = s.arrivals := rfl
@[simp] theorem storeTaps_outputs : (storeTaps t s).outputs = s.outputs := rfl
@[simp] theorem storeTaps_sid_reg : (storeTaps t s).sid.reg = s.sid.reg := rfl
@[simp] theorem storeTaps_sid_voices : (storeTaps t s).sid.voices = s.sid.voices := rfl
@[simp] theorem storeTaps_sid_syncRise : (storeTaps t s).sid.syncRise = s.sid.syncRise := rfl
@[simp] theorem storeTaps_sid_ringMSB : (storeTaps t s).sid.ringMSB = s.sid.ringMSB := rfl
@[simp] theorem storeTaps_sid_pLP : (storeTaps t s).sid.pLP = t.lp := rfl
@[simp] theorem storeTaps_sid_pBP : (storeTaps t s).sid.pBP = t.bp := rfl
@[simp] theorem storeTaps_sid_pVol : (storeTaps t s).sid.pVol = s.sid.pVol := rfl
@[simp] theorem storeTaps_sid_cfg : (storeTaps t s).sid.cfg = s.sid.cfg := rfl

-- storeReadBacks
@[simp] theorem storeReadBacks_sn : (storeReadBacks w s).sn = s.sn := rfl
@[simp] theorem storeReadBacks_params : (storeReadBacks w s).params = s.params := rfl
@[simp] theorem storeReadBacks_queue : (storeReadBacks w s).queue = s.queue := rfl
@[simp] theorem storeReadBacks_pos : (storeReadBacks w s).pos = s.pos := rfl
@[simp] theorem storeReadBacks_arrivals : (storeReadBacks w s).arrivals = s.arrivals := rfl
@[simp] theorem storeReadBacks_outputs : (storeReadBacks w s).outputs = s.outputs := rfl
@[simp] theorem storeReadBacks_sid_reg : (storeReadBacks w s).sid.reg = writeBank (writeBank s.sid.reg 0x1B (BitVec.ofNat 8 (w >>> 8))) 0x1C (BitVec.ofNat 8 s.sid.voices.a2.env) := rfl
@[simp] theorem storeReadBacks_sid_voices : (storeReadBacks w s).sid.voices = s.sid.voices := rfl
@[simp] theorem storeReadBacks_sid_syncRise : (storeReadBacks w s).sid.syncRise = s.sid.syncRise := rfl
@[simp] theorem storeReadBacks_sid_ringMSB : (storeReadBacks w s).sid.ringMSB = s.sid.ringMSB := rfl
@[simp] theorem storeReadBacks_sid_pLP : (storeReadBacks w s).sid.pLP = s.sid.pLP := rfl
@[simp] theorem storeReadBacks_sid_pBP : (storeReadBacks w s).sid.pBP = s.sid.pBP := rfl
@[simp] theorem storeReadBacks_sid_pVol : (storeReadBacks w s).sid.pVol = s.sid.pVol := rfl
@[simp] theorem storeReadBacks_sid_cfg : (storeReadBacks w s).sid.cfg = s.sid.cfg := rfl

-- placeCode
@[simp] theorem placeCode_sid : (placeCode c s).sid = s.sid := rfl
@[simp] theorem placeCode_sn : (placeCode c s).sn = s.sn := rfl
@[simp] theorem placeCode_params : (placeCode c s).params = s.params := rfl
@[simp] theorem placeCode_queue : (placeCode c s).queue = c :: s.queue.drop 1 := rfl
@[simp] theorem placeCode_pos : (placeCode c s).pos = s.pos := rfl
@[simp] theorem placeCode_arrivals : (placeCode c s).arrivals = s.arrivals := rfl
@[simp] theorem placeCode_outputs : (placeCode c s).outputs = s.outputs := rfl
end

section
variable (s : State) (v : Ix3) (c : Nat) (r : Rendering)

-- advanceSub
@[simp] theorem advanceSub_sn : (advanceSub v c s).sn = s.sn := rfl
@[simp] theorem advanceSub_params : (advanceSub v c s).params = s.params := rfl
@[simp] theorem advanceSub_queue : (advanceSub v c s).queue = s.queue := rfl
@[simp] theorem advanceSub_pos : (advanceSub v c s).pos = s.pos := rfl
@[simp] theorem advanceSub_arrivals : (advanceSub v c s).arrivals = s.arrivals := rfl
@[simp] theorem advanceSub_outputs : (advanceSub v c s).outputs = s.outputs := rfl
@[simp] theorem advanceSub_sid_reg : (advanceSub v c s).sid.reg = s.sid.reg := rfl
@[simp] theorem advanceSub_sid_syncRise : (advanceSub v c s).sid.syncRise = s.sid.syncRise := rfl
@[simp] theorem advanceSub_sid_ringMSB : (advanceSub v c s).sid.ringMSB = s.sid.ringMSB := rfl
@[simp] theorem advanceSub_sid_pLP : (advanceSub v c s).sid.pLP = s.sid.pLP := rfl
@[simp] theorem advanceSub_sid_pBP : (advanceSub v c s).sid.pBP = s.sid.pBP := rfl
@[simp] theorem advanceSub_sid_pVol : (advanceSub v c s).sid.pVol = s.sid.pVol := rfl
@[simp] theorem advanceSub_sid_cfg : (advanceSub v c s).sid.cfg = s.sid.cfg := rfl

-- renderSub
@[simp] theorem renderSub_sn : (renderSub v r).st.sn = r.st.sn := rfl
@[simp] theorem renderSub_params : (renderSub v r).st.params = r.st.params := rfl
@[simp] theorem renderSub_queue : (renderSub v r).st.queue = r.st.queue := rfl
@[simp] theorem renderSub_pos : (renderSub v r).st.pos = r.st.pos := rfl
@[simp] theorem renderSub_arrivals : (renderSub v r).st.arrivals = r.st.arrivals := rfl
@[simp] theorem renderSub_outputs : (renderSub v r).st.outputs = r.st.outputs := rfl
@[simp] theorem renderSub_sid_reg : (renderSub v r).st.sid.reg = r.st.sid.reg := rfl
@[simp] theorem renderSub_sid_pLP : (renderSub v r).st.sid.pLP = r.st.sid.pLP := rfl
@[simp] theorem renderSub_sid_pBP : (renderSub v r).st.sid.pBP = r.st.sid.pBP := rfl
@[simp] theorem renderSub_sid_pVol : (renderSub v r).st.sid.pVol = r.st.sid.pVol := rfl
@[simp] theorem renderSub_sid_cfg : (renderSub v r).st.sid.cfg = r.st.sid.cfg := rfl
@[simp] theorem renderPoint_st : (renderPoint r).st = hostPoint r.st := rfl
@[simp] theorem renderPoint_mix : (renderPoint r).mix = r.mix := rfl
@[simp] theorem renderPoint_w : (renderPoint r).w = r.w := rfl
end

section
variable (g : Sn) (i : Ix3) (t : Tone) (n k : Nat) (b : Byte) (m : Bool)

-- the SN76489 writes
@[simp] theorem setTone_tones : (setTone i t g).tones = triSet g.tones i t := rfl
@[simp] theorem setTone_noise : (setTone i t g).noise = g.noise := rfl
@[simp] theorem setTone_adr : (setTone i t g).adr = g.adr := rfl
@[simp] theorem setTone_bacc : (setTone i t g).bacc = g.bacc := rfl
@[simp] theorem setTone_stime : (setTone i t g).stime = g.stime := rfl
@[simp] theorem setTone_stereo : (setTone i t g).stereo = g.stereo := rfl
@[simp] theorem setTone_cfg : (setTone i t g).cfg = g.cfg := rfl

@[simp] theorem latch_tones : (latch n g).tones = g.tones := rfl
@[simp] theorem latch_noise : (latch n g).noise = g.noise := rfl
@[simp] theorem latch_adr : (latch n g).adr = n := rfl
@[simp] theorem latch_bacc : (latch n g).bacc = g.bacc := rfl
@[simp] theorem latch_stime : (latch n g).stime = g.stime := rfl
@[simp] theorem latch_stereo : (latch n g).stereo = g.stereo := rfl
@[simp] theorem latch_cfg : (latch n g).cfg = g.cfg := rfl

@[simp] theorem setNoiseControl_tones : (setNoiseControl m n g).tones = g.tones := rfl
@[simp] theorem setNoiseControl_noise : (setNoiseControl m n g).noise = { g.noise with mode := m, rate := n, seed := g.cfg.noiseSeed } := rfl
@[simp] theorem setNoiseControl_adr : (setNoiseControl m n g).adr = g.adr := rfl
@[simp] theorem setNoiseControl_bacc : (setNoiseControl m n g).bacc = g.bacc := rfl
@[simp] theorem setNoiseControl_stime : (setNoiseControl m n g).stime = g.stime := rfl
@[simp] theorem setNoiseControl_stereo : (setNoiseControl m n g).stereo = g.stereo := rfl
@[simp] theorem setNoiseControl_cfg : (setNoiseControl m n g).cfg = g.cfg := rfl

@[simp] theorem setNoiseVolume_tones : (setNoiseVolume n g).tones = g.tones := rfl
@[simp] theorem setNoiseVolume_noise : (setNoiseVolume n g).noise = { g.noise with vol := n } := rfl
@[simp] theorem setNoiseVolume_adr : (setNoiseVolume n g).adr = g.adr := rfl
@[simp] theorem setNoiseVolume_bacc : (setNoiseVolume n g).bacc = g.bacc := rfl
@[simp] theorem setNoiseVolume_stime : (setNoiseVolume n g).stime = g.stime := rfl
@[simp] theorem setNoiseVolume_stereo : (setNoiseVolume n g).stereo = g.stereo := rfl
@[simp] theorem setNoiseVolume_cfg : (setNoiseVolume n g).cfg = g.cfg := rfl

@[simp] theorem setStereo_tones : (setStereo b g).tones = g.tones := rfl
@[simp] theorem setStereo_noise : (setStereo b g).noise = g.noise := rfl
@[simp] theorem setStereo_adr : (setStereo b g).adr = g.adr := rfl
@[simp] theorem setStereo_bacc : (setStereo b g).bacc = g.bacc := rfl
@[simp] theorem setStereo_stime : (setStereo b g).stime = g.stime := rfl
@[simp] theorem setStereo_stereo : (setStereo b g).stereo = b := rfl
@[simp] theorem setStereo_cfg : (setStereo b g).cfg = g.cfg := rfl

@[simp] theorem setMute_tones : (setMute i m g).tones = triSet g.tones i { triGet g.tones i with mute := m } := rfl
@[simp] theorem setMute_noise : (setMute i m g).noise = g.noise := rfl
@[simp] theorem setMute_adr : (setMute i m g).adr = g.adr := rfl
@[simp] theorem setMute_bacc : (setMute i m g).bacc = g.bacc := rfl
@[simp] theorem setMute_stime : (setMute i m g).stime = g.stime := rfl
@[simp] theorem setMute_stereo : (setMute i m g).stereo = g.stereo := rfl
@[simp] theorem setMute_cfg : (setMute i m g).cfg = g.cfg := rfl

@[simp] theorem setToneVolume_tones : (setToneVolume i n g).tones = triSet g.tones i { triGet g.tones i with vol := n } := rfl
@[simp] theorem setToneVolume_noise : (setToneVolume i n g).noise = g.noise := rfl
@[simp] theorem setToneVolume_adr : (setToneVolume i n g).adr = g.adr := rfl
@[simp] theorem setToneVolume_bacc : (setToneVolume i n g).bacc = g.bacc := rfl
@[simp] theorem setToneVolume_stime : (setToneVolume i n g).stime = g.stime := rfl
@[simp] theorem setToneVolume_stereo : (setToneVolume i n g).stereo = g.stereo := rfl
@[simp] theorem setToneVolume_cfg : (setToneVolume i n g).cfg = g.cfg := rfl

@[simp] theorem setDividerLow_tones : (setDividerLow i n g).tones = triSet g.tones i { triGet g.tones i with freq := ((triGet g.tones i).freq &&& 0x3F0) ||| n } := rfl
@[simp] theorem setDividerLow_noise : (setDividerLow i n g).noise = g.noise := rfl
@[simp] theorem setDividerLow_adr : (setDividerLow i n g).adr = g.adr := rfl
@[simp] theorem setDividerLow_bacc : (setDividerLow i n g).bacc = g.bacc := rfl
@[simp] theorem setDividerLow_stime : (setDividerLow i n g).stime = g.stime := rfl
@[simp] theorem setDividerLow_stereo : (setDividerLow i n g).stereo = g.stereo := rfl
@[simp] theorem setDividerLow_cfg : (setDividerLow i n g).cfg = g.cfg := rfl

@[simp] theorem setDividerHigh_tones : (setDividerHigh i n g).tones = triSet g.tones i { triGet g.tones i with freq := (n <<< 4) ||| ((triGet g.tones i).freq &&& 0xF) } := rfl
@[simp] theorem setDividerHigh_noise : (setDividerHigh i n g).noise = g.noise := rfl
@[simp] theorem setDividerHigh_adr : (setDividerHigh i n g).adr = g.adr := rfl
@[simp] theorem setDividerHigh_bacc : (setDividerHigh i n g).bacc = g.bacc := rfl
@[simp] theorem setDividerHigh_stime : (setDividerHigh i n g).stime = g.stime := rfl
@[simp] theorem setDividerHigh_stereo : (setDividerHigh i n g).stereo = g.stereo := rfl
@[simp] theorem setDividerHigh_cfg : (setDividerHigh i n g).cfg = g.cfg := rfl

-- unitStep
@[simp] theorem unitStep_adr : (unitStep g).adr = g.adr := rfl
@[simp] theorem unitStep_bacc : (unitStep g).bacc = g.bacc := rfl
@[simp] theorem unitStep_stime : (unitStep g).stime = g.stime := rfl
@[simp] theorem unitStep_stereo : (unitStep g).stereo = g.stereo := rfl
@[simp] theorem unitStep_cfg : (unitStep g).cfg = g.cfg := rfl
@[simp] theorem unitStep_tones : (unitStep g).tones = triMap (fun t => toneOut g.cfg (toneUnit t)) g.tones := rfl
@[simp] theorem unitStep_noise : (unitStep g).noise = noiseOutUnit g.cfg (noiseUnit g) := rfl
end

section
variable {α β : Type} (t : Tri α) (i j : Ix3) (x : α) (f : α → β)

-- three-fold fields
@[simp] theorem triGet_triSet_same : triGet (triSet t i x) i = x := by cases i <;> rfl

theorem triGet_triSet_ne (h : j ≠ i) : triGet (triSet t i x) j = triGet t j := by
  cases i <;> cases j <;> first | rfl | exact absurd rfl h

@[simp] theorem triGet_triMap : triGet (triMap f t) i = f (triGet t i) := by cases i <;> rfl

@[simp] theorem triSet_a0 : triSet t .i0 x = ⟨x, t.a1, t.a2⟩ := rfl
@[simp] theorem triSet_a1 : triSet t .i1 x = ⟨t.a0, x, t.a2⟩ := rfl
@[simp] theorem triSet_a2 : triSet t .i2 x = ⟨t.a0, t.a1, x⟩ := rfl
@[simp] theorem triGet_i0 : triGet t .i0 = t.a0 := rfl
@[simp] theorem triGet_i1 : triGet t .i1 = t.a1 := rfl
@[simp] theorem triGet_i2 : triGet t .i2 = t.a2 := rfl
end

end Sys2Proof.Laws
end

