-- ==== Sys2Proof/Laws/Memory.lean ====
section
/-! SUPPORT. The register bank: a read after a write, the canonical form, equal banks from equal reads' point of view. -/

namespace Sys2Proof.Laws

open Sys2Proof.Machine

theorem bankWfFrom_cons (lo k : Nat) (b : Byte) (rest : Bank) :
    bankWfFrom lo ((k, b) :: rest) = true ↔ lo ≤ k ∧ k < 29 ∧ b ≠ unlistedByte ∧ bankWfFrom (k + 1) rest = true := by
  simp only [bankWfFrom, Bool.and_eq_true, decide_eq_true_eq, and_assoc]

/-- A canonical bank from `lo` on lists no offset below `lo`. -/
theorem readBank_below (m : Bank) : ∀ (lo a : Nat), bankWfFrom lo m = true → a < lo → readBank m a = unlistedByte := by
  induction m with
  | nil => intros; rfl
  | cons p rest ih =>
    obtain ⟨k, b⟩ := p
    intro lo a h ha
    obtain ⟨hk, -, -, hr⟩ := (bankWfFrom_cons lo k b rest).mp h
    have hne : k ≠ a := by omega
    simp only [readBank, if_neg hne]
    exact ih (k + 1) a hr (by omega)

theorem bankWfFrom_mono (m : Bank) : ∀ (lo lo' : Nat), lo' ≤ lo → bankWfFrom lo m = true → bankWfFrom lo' m = true := by
  cases m with
  | nil => intros; rfl
  | cons p rest =>
    obtain ⟨k, b⟩ := p
    intro lo lo' hl h
    obtain ⟨hk, h1, h2, h3⟩ := (bankWfFrom_cons lo k b rest).mp h
    exact (bankWfFrom_cons lo' k b rest).mpr ⟨by omega, h1, h2, h3⟩

/-- A write gives back what was written. -/
theorem readBank_writeBank_same (m : Bank) (a : Nat) (d : Byte) :
    ∀ lo, bankWfFrom lo m = true → readBank (writeBank m a d) a = d := by
  induction m with
  | nil =>
    intro lo _
    by_cases hd : d = unlistedByte <;> simp [writeBank, readBank, hd]
  | cons p rest ih =>
    obtain ⟨k, b⟩ := p
    intro lo h
    obtain ⟨-, -, -, hr⟩ := (bankWfFrom_cons lo k b rest).mp h
    unfold writeBank
    split
    · rename_i hlt
      split
      · rename_i hd
        rw [hd]
        have hne : k ≠ a := by omega
        simp only [readBank, if_neg hne]
        exact readBank_below rest (k + 1) a hr (by omega)
      · simp [readBank]
    · split
      · rename_i heq
        split
        · rename_i hd
          rw [hd]
          exact readBank_below rest (k + 1) a hr (by omega)
        · simp [readBank]
      · rename_i h1 h2
        have hne : k ≠ a := fun e => h2 e.symm
        simp only [readBank, if_neg hne]
        exact ih (k + 1) hr

/-- A write leaves every other offset. -/
theorem readBank_writeBank_ne (m : Bank) (a x : Nat) (d : Byte) (hx : x ≠ a) :
    readBank (writeBank m a d) x = readBank m x := by
  induction m with
  | nil => by_cases hd : d = unlistedByte <;> simp [writeBank, readBank, hd, Ne.symm hx]
  | cons p rest ih =>
    obtain ⟨k, b⟩ := p
    unfold writeBank
    split
    · split
      · rfl
      · simp [readBank, Ne.symm hx]
    · split
      · rename_i heq
        subst heq
        split <;> simp [readBank, Ne.symm hx]
      · simp only [readBank, ih]

/-- A write at an offset of the bank keeps the canonical form. -/
theorem bankWfFrom_writeBank (m : Bank) (a : Nat) (d : Byte) (ha : a < 29) :
    ∀ lo, lo ≤ a → bankWfFrom lo m = true → bankWfFrom lo (writeBank m a d) = true := by
  induction m with
  | nil =>
    intro lo hlo _
    by_cases hd : d = unlistedByte
    · simp [writeBank, hd, bankWfFrom]
    · simp [writeBank, hd, bankWfFrom, hlo, ha]
  | cons p rest ih =>
    obtain ⟨k, b⟩ := p
    intro lo hlo h
    obtain ⟨hk, h1, h2, h3⟩ := (bankWfFrom_cons lo k b rest).mp h
    unfold writeBank
    split
    · rename_i hlt
      split
      · exact h
      · rename_i hd
        exact (bankWfFrom_cons _ _ _ _).mpr ⟨hlo, ha, hd, (bankWfFrom_cons _ _ _ _).mpr ⟨by omega, h1, h2, h3⟩⟩
    · split
      · rename_i heq
        subst heq
        split
        · exact bankWfFrom_mono rest (a + 1) lo (by omega) h3
        · rename_i hd
          exact (bankWfFrom_cons _ _ _ _).mpr ⟨hlo, ha, hd, h3⟩
      · rename_i hn he
        exact (bankWfFrom_cons _ _ _ _).mpr ⟨hk, h1, h2, ih (k + 1) (by omega) h3⟩

/-- `reg[a] <- d` and then `reg[a]` (20_memory R62, R63). -/
theorem readReg_storeReg_same (s : State) (a : Nat) (d : Byte) (h : bankWf s.sid.reg = true) :
    readReg (storeReg a d s) a = d :=
  readBank_writeBank_same s.sid.reg a d 0 h

/-- A store leaves every other register (20_memory R62). -/
theorem readReg_storeReg_ne (s : State) (a x : Nat) (d : Byte) (hx : x ≠ a) :
    readReg (storeReg a d s) x = readReg s x :=
  readBank_writeBank_ne s.sid.reg a x d hx

/-- A store keeps the bank canonical. -/
theorem bankWf_storeReg (s : State) (a : Nat) (d : Byte) (ha : a < 29) (h : bankWf s.sid.reg = true) :
    bankWf (storeReg a d s).sid.reg = true :=
  bankWfFrom_writeBank s.sid.reg a d ha 0 (Nat.zero_le a) h

/-- The read-backs keep the bank canonical (42 R211). -/
theorem bankWf_storeReadBacks (w : Nat) (s : State) (h : bankWf s.sid.reg = true) :
    bankWf (storeReadBacks w s).sid.reg = true :=
  bankWf_storeReg _ _ _ (by decide) (bankWf_storeReg _ _ _ (by decide) h)

/-- A HOST_W operation keeps the bank canonical. -/
theorem bankWf_applyAct (x : HostAct) (s : State) (h : bankWf s.sid.reg = true) : bankWf (applyAct x s).sid.reg = true := by
  cases x with
  | sidWrite a d => exact bankWf_storeReg s a.val d a.isLt h
  | sidRead a => exact h
  | snWrite b => exact h
  | snGgWrite b => exact h
  | snSetMute i f => exact h

theorem bankWf_applyActs (l : List HostAct) : ∀ s : State, bankWf s.sid.reg = true → bankWf (applyActs l s).sid.reg = true := by
  induction l with
  | nil => exact fun s h => h
  | cons x rest ih => exact fun s h => ih _ (bankWf_applyAct x s h)

/-- An inner interleaving point keeps the bank canonical. -/
theorem bankWf_hostPoint (s : State) (h : bankWf s.sid.reg = true) : bankWf (hostPoint s).sid.reg = true := by
  unfold hostPoint
  split
  · exact h
  · exact bankWf_applyActs _ _ h

/-- The bank right after reset is canonical. -/
theorem bankWf_reset : bankWf State.reset.sid.reg = true := rfl

end Sys2Proof.Laws
end

