-- ==== Sys2Proof/Laws/Ops.lean ====
section
/-! SUPPORT. What each shared operation can do, said once; proofs cite these and do not unfold the operation. -/

namespace Sys2Proof.Laws

open Sys2Proof.Machine

-- ---- notation

/-- The product with a table entry is the product. -/
@[simp] theorem timesEntry_eq (x k : Int) : timesEntry x k = x * k := by
  unfold timesEntry
  split
  · rename_i h; rw [h, Int.zero_mul]
  · rfl

theorem inRange_iff (hi x : Int) : inRange hi x = true ↔ 0 ≤ x ∧ x ≤ hi := by
  unfold inRange; exact decide_eq_true_iff

theorem inInt32_iff (x : Int) : inInt32 x = true ↔ -2 ^ 31 ≤ x ∧ x ≤ 2 ^ 31 - 1 := by
  unfold inInt32; exact decide_eq_true_iff

theorem bitNat_le_one (b : Bool) : bitNat b ≤ 1 := by cases b <;> decide

-- ---- HOST_W at an interleaving point

/-- What HOST_W operations leave alone: every part of the machine but the register bank, the SN76489 instance without its
configuration, and the results. -/
structure HostFrame (s t : State) : Prop where
  voices : t.sid.voices = s.sid.voices
  syncRise : t.sid.syncRise = s.sid.syncRise
  ringMSB : t.sid.ringMSB = s.sid.ringMSB
  pLP : t.sid.pLP = s.sid.pLP
  pBP : t.sid.pBP = s.sid.pBP
  pVol : t.sid.pVol = s.sid.pVol
  sidCfg : t.sid.cfg = s.sid.cfg
  snCfg : t.sn.cfg = s.sn.cfg
  params : t.params = s.params
  queue : t.queue = s.queue
  pos : t.pos = s.pos

theorem HostFrame.refl (s : State) : HostFrame s s := ⟨rfl, rfl, rfl, rfl, rfl, rfl, rfl, rfl, rfl, rfl, rfl⟩

theorem HostFrame.trans {s t u : State} (h : HostFrame s t) (k : HostFrame t u) : HostFrame s u :=
  ⟨k.voices.trans h.voices, k.syncRise.trans h.syncRise, k.ringMSB.trans h.ringMSB, k.pLP.trans h.pLP, k.pBP.trans h.pBP,
    k.pVol.trans h.pVol, k.sidCfg.trans h.sidCfg, k.snCfg.trans h.snCfg, k.params.trans h.params, k.queue.trans h.queue,
    k.pos.trans h.pos⟩

/-- A latch byte keeps the configuration. -/
@[simp] theorem latchWrite_cfg (aaa d : Nat) (g : Sn) : (latchWrite aaa d g).cfg = g.cfg := by
  unfold latchWrite
  split
  · rfl
  · split
    · rfl
    · split <;> rfl

/-- A latch byte sets the latch (43 R243). -/
@[simp] theorem latchWrite_adr (aaa d : Nat) (g : Sn) : (latchWrite aaa d g).adr = aaa := by
  unfold latchWrite
  split
  · rfl
  · split
    · rfl
    · split <;> rfl

/-- A data byte keeps the configuration. -/
@[simp] theorem dataWrite_cfg (h : Nat) (g : Sn) : (dataWrite h g).cfg = g.cfg := by
  unfold dataWrite; split <;> rfl

/-- A data byte keeps the latch (43 R247). -/
@[simp] theorem dataWrite_adr (h : Nat) (g : Sn) : (dataWrite h g).adr = g.adr := by
  unfold dataWrite; split <;> rfl

/-- A byte on the data port keeps the configuration. -/
@[simp] theorem snByte_cfg (b : Nat) (g : Sn) : (snByte b g).cfg = g.cfg := by
  unfold snByte; split
  · exact latchWrite_cfg _ _ _
  · exact dataWrite_cfg _ _

/-- One HOST_W operation's frame. -/
theorem applyAct_frame (x : HostAct) (s : State) : HostFrame s (applyAct x s) := by
  cases x with
  | snWrite b => exact ⟨rfl, rfl, rfl, rfl, rfl, rfl, rfl, snByte_cfg _ _, rfl, rfl, rfl⟩
  | _ => exact ⟨rfl, rfl, rfl, rfl, rfl, rfl, rfl, rfl, rfl, rfl, rfl⟩

theorem applyActs_frame (l : List HostAct) : ∀ s : State, HostFrame s (applyActs l s) := by
  induction l with
  | nil => exact HostFrame.refl
  | cons x rest ih => exact fun s => (applyAct_frame x s).trans (ih _)

/-- An interleaving point's frame. -/
theorem hostPoint_frame (s : State) : HostFrame s (hostPoint s) := by
  unfold hostPoint
  split
  · exact HostFrame.refl s
  · rename_i acts rest _
    have h : HostFrame s { s with arrivals := rest } := ⟨rfl, rfl, rfl, rfl, rfl, rfl, rfl, rfl, rfl, rfl, rfl⟩
    exact h.trans (applyActs_frame acts _)

/-- With no arrivals left, an interleaving point changes nothing. -/
theorem hostPoint_none (s : State) (h : s.arrivals = []) : hostPoint s = s := by
  unfold hostPoint; rw [h]

/-- With arrivals left, an interleaving point performs the next ones. -/
theorem hostPoint_some (s : State) (acts : List HostAct) (rest : List (List HostAct)) (h : s.arrivals = acts :: rest) :
    hostPoint s = applyActs acts { s with arrivals := rest } := by
  unfold hostPoint; rw [h]

/-- HOST_W operations leave the arrivals to come. -/
@[simp] theorem applyActs_arrivals (l : List HostAct) : ∀ s : State, (applyActs l s).arrivals = s.arrivals := by
  induction l with
  | nil => exact fun _ => rfl
  | cons x rest ih => exact fun s => (ih (applyAct x s)).trans (by cases x <;> rfl)

/-- With no arrivals left, an interleaving point of a render changes nothing. -/
theorem renderPoint_none (r : Rendering) (h : r.st.arrivals = []) : renderPoint r = r := by
  unfold renderPoint; rw [hostPoint_none r.st h]

-- ---- the filter sub-step

/-- Everything the filter sub-step can do (42 R212, R213). -/
theorem filterSub_cases (r : Rendering) :
    (inInt32 (renderTaps r).bp = false ∧ filterSub r = .fault (.numericRange .pBP r.st))
      ∨ (inInt32 (renderTaps r).bp = true ∧ inInt32 (renderTaps r).lp = false
          ∧ filterSub r = .fault (.numericRange .pLP r.st))
      ∨ (inInt32 (renderTaps r).bp = true ∧ inInt32 (renderTaps r).lp = true ∧ inInt32 (renderOut r) = false
          ∧ filterSub r = .fault (.numericRange .out (storeTaps (renderTaps r) r.st)))
      ∨ (inInt32 (renderTaps r).bp = true ∧ inInt32 (renderTaps r).lp = true ∧ inInt32 (renderOut r) = true
          ∧ filterSub r
            = .next (returnOutput (.sample (renderOut r)) (storeReadBacks r.w (storeTaps (renderTaps r) r.st)))) := by
  unfold filterSub raiseNumericRange
  cases h1 : inInt32 (renderTaps r).bp
  · exact .inl ⟨rfl, by simp [h1]⟩
  · cases h2 : inInt32 (renderTaps r).lp
    · exact .inr (.inl ⟨rfl, rfl, by simp [h1, h2]⟩)
    · cases h3 : inInt32 (renderOut r)
      · exact .inr (.inr (.inl ⟨rfl, rfl, rfl, by simp [h1, h2]⟩))
      · exact .inr (.inr (.inr ⟨rfl, rfl, rfl, by simp [h1, h2]⟩))

-- ---- the SN76489 units

@[simp] theorem repeatUnit_zero (g : Sn) : repeatUnit 0 g = g := rfl
@[simp] theorem repeatUnit_succ (n : Nat) (g : Sn) : repeatUnit (n + 1) g = repeatUnit n (unitStep g) := rfl

/-- What units leave alone. -/
structure UnitFrame (g h : Sn) : Prop where
  adr : h.adr = g.adr
  stereo : h.stereo = g.stereo
  cfg : h.cfg = g.cfg

theorem repeatUnit_frame (n : Nat) : ∀ g : Sn, UnitFrame g (repeatUnit n g) := by
  induction n with
  | zero => exact fun g => ⟨rfl, rfl, rfl⟩
  | succ n ih => exact fun g => ⟨(ih (unitStep g)).adr, (ih (unitStep g)).stereo, (ih (unitStep g)).cfg⟩

@[simp] theorem repeatUnit_bacc (n : Nat) : ∀ g : Sn, (repeatUnit n g).bacc = g.bacc := by
  induction n with
  | zero => exact fun g => rfl
  | succ n ih => exact fun g => ih (unitStep g)

@[simp] theorem repeatUnit_stime (n : Nat) : ∀ g : Sn, (repeatUnit n g).stime = g.stime := by
  induction n with
  | zero => exact fun g => rfl
  | succ n ih => exact fun g => ih (unitStep g)

theorem qualityLoop_frame (fuel : Nat) : ∀ g : Sn, UnitFrame g (qualityLoop fuel g) := by
  induction fuel with
  | zero => exact fun g => ⟨rfl, rfl, rfl⟩
  | succ n ih =>
    intro g
    unfold qualityLoop
    split
    · have h := ih (unitStep { g with stime := g.stime + snUnitStep g.cfg })
      exact ⟨h.adr, h.stereo, h.cfg⟩
    · exact ⟨rfl, rfl, rfl⟩

/-- The rate converter's frame (43 R260): latch, stereo mask and configuration stay. -/
theorem rateAdvance_frame (g : Sn) : UnitFrame g (rateAdvance g) := by
  unfold rateAdvance
  split
  · exact ⟨(qualityLoop_frame _ g).adr, (qualityLoop_frame _ g).stereo, (qualityLoop_frame _ g).cfg⟩
  · have h := repeatUnit_frame ((g.bacc + g.cfg.baseIncr) / 2 ^ 24) { g with bacc := (g.bacc + g.cfg.baseIncr) % 2 ^ 24 }
    exact ⟨h.adr, h.stereo, h.cfg⟩

-- ---- taking the next operation

/-- Everything a step can do: idle, refuse a code without an instruction, or run the instruction. -/
theorem step_cases (s : State) :
    (s.queue = [] ∧ step s = .next s)
      ∨ (∃ c rest e, s.queue = c :: rest ∧ decode c = .error e ∧ step s = .refused (refusalOf e))
      ∨ (∃ c rest i, s.queue = c :: rest ∧ decode c = .ok i
          ∧ step s = exec i { s with queue := rest, pos := s.pos + 1 }) := by
  cases hq : s.queue with
  | nil => exact .inl ⟨rfl, by simp [step, fetch, hq]⟩
  | cons c rest =>
    cases hd : decode c with
    | error e => exact .inr (.inl ⟨c, rest, e, rfl, hd, by simp [step, fetch, hq, hd, refuse]⟩)
    | ok i => exact .inr (.inr ⟨c, rest, i, rfl, hd, by simp [step, fetch, hq, hd]⟩)

end Sys2Proof.Laws
end

