-- ==== Sys2Proof/Laws/PerInstr.lean ====
section
/-! SUPPORT. Statements for all instructions, proved constructor by constructor. -/

namespace Sys2Proof.Laws

/-- A latch byte's bits 7..4 are 1 and its address (30_encoding R82). -/
theorem latch_byte_hits : ∀ (aaa : BitVec 3) (d : Nibble), Row.hits ⟨0xF0#8, 1#1 ++ aaa ++ 0#4⟩ (latchByte aaa d) = true := by
  decide

/-- A data byte's bit 7 is 0 (30_encoding R82). -/
theorem data_byte_hits : ∀ (x : BitVec 1) (h : BitVec 6), Row.hits ⟨0x80#8, 0x00#8⟩ (0#1 ++ x ++ h) = true := by
  decide

/-- The encoding of an instruction with a bit pattern matches its own row of the opcode table: the byte under the mask is
the pattern. A host operation has no bit pattern (30_encoding R110). -/
def RowMatches.Statement (i : Instr) : Prop :=
  match i.row, (encode i).tableByte with
  | some r, some b => r.hits b = true
  | none, none => True
  | _, _ => False

theorem RowMatches.sidCreate (m : Int) (ctx : HostContext) : RowMatches.Statement (.sidCreate m ctx) := trivial
theorem RowMatches.sidReset : RowMatches.Statement (.sidReset) := trivial
theorem RowMatches.sidWrite (a d : Int) : RowMatches.Statement (.sidWrite a d) := trivial
theorem RowMatches.sidRead (a : Int) : RowMatches.Statement (.sidRead a) := trivial
theorem RowMatches.sidAdvance (c : Int) : RowMatches.Statement (.sidAdvance c) := trivial
theorem RowMatches.sidRender : RowMatches.Statement (.sidRender) := trivial
theorem RowMatches.snCreate (cfg : SnArgs) : RowMatches.Statement (.snCreate cfg) := trivial
theorem RowMatches.snReset : RowMatches.Statement (.snReset) := trivial
theorem RowMatches.snWrite (b : Int) : RowMatches.Statement (.snWrite b) := trivial
theorem RowMatches.snGgWrite (b : Int) : RowMatches.Statement (.snGgWrite b) := trivial
theorem RowMatches.snSetMute (i f : Int) : RowMatches.Statement (.snSetMute i f) := trivial
theorem RowMatches.snStep : RowMatches.Statement (.snStep) := trivial
theorem RowMatches.snStepStereo : RowMatches.Statement (.snStepStereo) := trivial
theorem RowMatches.sidWrV0FreqLo (d : Byte) : RowMatches.Statement (.sidWrV0FreqLo d) := rfl
theorem RowMatches.sidWrV0FreqHi (d : Byte) : RowMatches.Statement (.sidWrV0FreqHi d) := rfl
theorem RowMatches.sidWrV0PwLo (d : Byte) : RowMatches.Statement (.sidWrV0PwLo d) := rfl
theorem RowMatches.sidWrV0PwHi (d : Byte) : RowMatches.Statement (.sidWrV0PwHi d) := rfl
theorem RowMatches.sidWrV0Control (d : Byte) : RowMatches.Statement (.sidWrV0Control d) := rfl
theorem RowMatches.sidWrV0Ad (d : Byte) : RowMatches.Statement (.sidWrV0Ad d) := rfl
theorem RowMatches.sidWrV0Sr (d : Byte) : RowMatches.Statement (.sidWrV0Sr d) := rfl
theorem RowMatches.sidWrV1FreqLo (d : Byte) : RowMatches.Statement (.sidWrV1FreqLo d) := rfl
theorem RowMatches.sidWrV1FreqHi (d : Byte) : RowMatches.Statement (.sidWrV1FreqHi d) := rfl
theorem RowMatches.sidWrV1PwLo (d : Byte) : RowMatches.Statement (.sidWrV1PwLo d) := rfl
theorem RowMatches.sidWrV1PwHi (d : Byte) : RowMatches.Statement (.sidWrV1PwHi d) := rfl
theorem RowMatches.sidWrV1Control (d : Byte) : RowMatches.Statement (.sidWrV1Control d) := rfl
theorem RowMatches.sidWrV1Ad (d : Byte) : RowMatches.Statement (.sidWrV1Ad d) := rfl
theorem RowMatches.sidWrV1Sr (d : Byte) : RowMatches.Statement (.sidWrV1Sr d) := rfl
theorem RowMatches.sidWrV2FreqLo (d : Byte) : RowMatches.Statement (.sidWrV2FreqLo d) := rfl
theorem RowMatches.sidWrV2FreqHi (d : Byte) : RowMatches.Statement (.sidWrV2FreqHi d) := rfl
theorem RowMatches.sidWrV2PwLo (d : Byte) : RowMatches.Statement (.sidWrV2PwLo d) := rfl
theorem RowMatches.sidWrV2PwHi (d : Byte) : RowMatches.Statement (.sidWrV2PwHi d) := rfl
theorem RowMatches.sidWrV2Control (d : Byte) : RowMatches.Statement (.sidWrV2Control d) := rfl
theorem RowMatches.sidWrV2Ad (d : Byte) : RowMatches.Statement (.sidWrV2Ad d) := rfl
theorem RowMatches.sidWrV2Sr (d : Byte) : RowMatches.Statement (.sidWrV2Sr d) := rfl
theorem RowMatches.sidWrFcLo (d : Byte) : RowMatches.Statement (.sidWrFcLo d) := rfl
theorem RowMatches.sidWrFcHi (d : Byte) : RowMatches.Statement (.sidWrFcHi d) := rfl
theorem RowMatches.sidWrResFilt (d : Byte) : RowMatches.Statement (.sidWrResFilt d) := rfl
theorem RowMatches.sidWrModeVol (d : Byte) : RowMatches.Statement (.sidWrModeVol d) := rfl
theorem RowMatches.sidWrPotx (d : Byte) : RowMatches.Statement (.sidWrPotx d) := rfl
theorem RowMatches.sidWrPoty (d : Byte) : RowMatches.Statement (.sidWrPoty d) := rfl
theorem RowMatches.sidWrOsc3 (d : Byte) : RowMatches.Statement (.sidWrOsc3 d) := rfl
theorem RowMatches.sidWrEnv3 (d : Byte) : RowMatches.Statement (.sidWrEnv3 d) := rfl
theorem RowMatches.snLatchTone0Freq (d : Nibble) : RowMatches.Statement (.snLatchTone0Freq d) := latch_byte_hits 0#3 d
theorem RowMatches.snLatchTone0Vol (d : Nibble) : RowMatches.Statement (.snLatchTone0Vol d) := latch_byte_hits 1#3 d
theorem RowMatches.snLatchTone1Freq (d : Nibble) : RowMatches.Statement (.snLatchTone1Freq d) := latch_byte_hits 2#3 d
theorem RowMatches.snLatchTone1Vol (d : Nibble) : RowMatches.Statement (.snLatchTone1Vol d) := latch_byte_hits 3#3 d
theorem RowMatches.snLatchTone2Freq (d : Nibble) : RowMatches.Statement (.snLatchTone2Freq d) := latch_byte_hits 4#3 d
theorem RowMatches.snLatchTone2Vol (d : Nibble) : RowMatches.Statement (.snLatchTone2Vol d) := latch_byte_hits 5#3 d
theorem RowMatches.snLatchNoiseCtrl (x m : BitVec 1) (rr : BitVec 2) : RowMatches.Statement (.snLatchNoiseCtrl x m rr) := latch_byte_hits 6#3 (x ++ m ++ rr)
theorem RowMatches.snLatchNoiseVol (d : Nibble) : RowMatches.Statement (.snLatchNoiseVol d) := latch_byte_hits 7#3 d
theorem RowMatches.snData (x : BitVec 1) (h : BitVec 6) : RowMatches.Statement (.snData x h) := data_byte_hits x h

end Sys2Proof.Laws
end

