-- ==== Sys2Proof/Machine/Program.lean ====
section
/-! DEFINITION. The pseudo-operations of 30_encoding R111: each is the exact sequence of operations shown there. They are
notation for host programs and not instructions. -/

namespace Sys2Proof.Machine

/-- A pseudo-operation (30_encoding R111). -/
inductive Pseudo where
  | wrfreq (v : Ix3) (n : Nat)
  | wrpw (v : Ix3) (n : Nat)
  | wrcutoff (n : Nat)
  | advn (c k : Nat)
  | rendern (k : Nat)
  | sntone (i : Ix3) (n : Nat)
  /-- `i = 3` is the noise channel. -/
  | snvol (i : Fin 4) (vol : Nat)
  | snstepn (k : Nat)
deriving DecidableEq, Repr

/-- `wr A, D`. -/
def wr (a d : Nat) : Instr := .sidWrite (a : Int) (d : Int)

/-- `snw B`. -/
def snw (b : Nat) : Instr := .snWrite (b : Int)

/-- The operations of a pseudo-operation (30_encoding R111). DESIGN CHOICE: a number above
the rule's bound, or of a width the rule does not bound, is expanded by the same formulas: `sntone` drops bits 10 and up,
`wrpw` writes the unused bits of PW_HI, and a byte above 0xFF is one the operation refuses (log 29). -/
def expand : Pseudo → List Instr
  | .wrfreq v n => [wr (7 * num v) (n &&& 0xFF), wr (7 * num v + 1) (n >>> 8)]
  | .wrpw v n => [wr (7 * num v + 2) (n &&& 0xFF), wr (7 * num v + 3) (n >>> 8)]
  | .wrcutoff n => [wr 0x15 (n &&& 7), wr 0x16 (n >>> 3)]
  | .advn c k => List.replicate k (.sidAdvance (c : Int))
  | .rendern k => List.replicate k .sidRender
  | .sntone i n => [snw (0x80 ||| (num i <<< 5) ||| (n &&& 0xF)), snw ((n >>> 4) &&& 0x3F)]
  | .snvol i vol => [snw (if i = 3 then 0xF0 ||| vol else 0x90 ||| (i.val <<< 5) ||| vol)]
  | .snstepn k => List.replicate k .snStep

end Sys2Proof.Machine
end

