-- ==== Sys2Proof/Tests/Slice0.lean ====
section
/-! SUPPORT. Tests on small states. Expected values come from the spec: the encodings of 30_encoding and the opcode table,
and the vectors of 95_test_vectors, named where they are used. -/

namespace Sys2Proof.Tests

open Sys2Proof.Machine

-- ---- decoding: words written out from the spec's encodings

/-- Offsets 0x00 to 0x06 (10_state R44), data 0x5A. -/
theorem test_decode_voice0_rows :
    decodeTableWord 16 0x5A00 = some (.sidWrV0FreqLo 0x5A#8)
      ∧ decodeTableWord 16 0x5A01 = some (.sidWrV0FreqHi 0x5A#8)
      ∧ decodeTableWord 16 0x5A02 = some (.sidWrV0PwLo 0x5A#8)
      ∧ decodeTableWord 16 0x5A03 = some (.sidWrV0PwHi 0x5A#8)
      ∧ decodeTableWord 16 0x5A04 = some (.sidWrV0Control 0x5A#8)
      ∧ decodeTableWord 16 0x5A05 = some (.sidWrV0Ad 0x5A#8)
      ∧ decodeTableWord 16 0x5A06 = some (.sidWrV0Sr 0x5A#8) := by
  decide

/-- Offsets 0x07 to 0x0d (10_state R44), data 0x5A. -/
theorem test_decode_voice1_rows :
    decodeTableWord 16 0x5A07 = some (.sidWrV1FreqLo 0x5A#8)
      ∧ decodeTableWord 16 0x5A08 = some (.sidWrV1FreqHi 0x5A#8)
      ∧ decodeTableWord 16 0x5A09 = some (.sidWrV1PwLo 0x5A#8)
      ∧ decodeTableWord 16 0x5A0A = some (.sidWrV1PwHi 0x5A#8)
      ∧ decodeTableWord 16 0x5A0B = some (.sidWrV1Control 0x5A#8)
      ∧ decodeTableWord 16 0x5A0C = some (.sidWrV1Ad 0x5A#8)
      ∧ decodeTableWord 16 0x5A0D = some (.sidWrV1Sr 0x5A#8) := by
  decide

/-- Offsets 0x0e to 0x14 (10_state R44), data 0x5A. -/
theorem test_decode_voice2_rows :
    decodeTableWord 16 0x5A0E = some (.sidWrV2FreqLo 0x5A#8)
      ∧ decodeTableWord 16 0x5A0F = some (.sidWrV2FreqHi 0x5A#8)
      ∧ decodeTableWord 16 0x5A10 = some (.sidWrV2PwLo 0x5A#8)
      ∧ decodeTableWord 16 0x5A11 = some (.sidWrV2PwHi 0x5A#8)
      ∧ decodeTableWord 16 0x5A12 = some (.sidWrV2Control 0x5A#8)
      ∧ decodeTableWord 16 0x5A13 = some (.sidWrV2Ad 0x5A#8)
      ∧ decodeTableWord 16 0x5A14 = some (.sidWrV2Sr 0x5A#8) := by
  decide

/-- Offsets 0x15 to 0x1C (10_state R50 to R55), data 0xA5. -/
theorem test_decode_chip_rows :
    decodeTableWord 16 0xA515 = some (.sidWrFcLo 0xA5#8)
      ∧ decodeTableWord 16 0xA516 = some (.sidWrFcHi 0xA5#8)
      ∧ decodeTableWord 16 0xA517 = some (.sidWrResFilt 0xA5#8)
      ∧ decodeTableWord 16 0xA518 = some (.sidWrModeVol 0xA5#8)
      ∧ decodeTableWord 16 0xA519 = some (.sidWrPotx 0xA5#8)
      ∧ decodeTableWord 16 0xA51A = some (.sidWrPoty 0xA5#8)
      ∧ decodeTableWord 16 0xA51B = some (.sidWrOsc3 0xA5#8)
      ∧ decodeTableWord 16 0xA51C = some (.sidWrEnv3 0xA5#8) := by
  decide

/-- The latch bytes 1aaadddd with dddd = 1010 (30_encoding R83), and noise control 1110xmrr. -/
theorem test_decode_sn_latch :
    decodeTableWord 8 0b10001010 = some (.snLatchTone0Freq 0b1010#4)
      ∧ decodeTableWord 8 0b10011010 = some (.snLatchTone0Vol 0b1010#4)
      ∧ decodeTableWord 8 0b10101010 = some (.snLatchTone1Freq 0b1010#4)
      ∧ decodeTableWord 8 0b10111010 = some (.snLatchTone1Vol 0b1010#4)
      ∧ decodeTableWord 8 0b11001010 = some (.snLatchTone2Freq 0b1010#4)
      ∧ decodeTableWord 8 0b11011010 = some (.snLatchTone2Vol 0b1010#4)
      ∧ decodeTableWord 8 0b11101101 = some (.snLatchNoiseCtrl 1#1 1#1 0b01#2)
      ∧ decodeTableWord 8 0b11100010 = some (.snLatchNoiseCtrl 0#1 0#1 0b10#2)
      ∧ decodeTableWord 8 0b11111010 = some (.snLatchNoiseVol 0b1010#4) := by
  decide

/-- The data byte 0xhhhhhh (30_encoding R82), on the data port; bit 6 is kept and ignored. -/
theorem test_decode_sn_data :
    decode (.snBus 0b00000000#8) = .ok (.snData 0#1 0b000000#6) ∧ decode (.snBus 0b01100001#8) = .ok (.snData 1#1 0b100001#6)
      ∧ decodeTableWord 8 0b01100001 = some (.snData 1#1 0b100001#6) := by
  refine ⟨rfl, rfl, ?_⟩
  decide

/-- The records of 30_encoding R80 and R110, as in the programs P1 and P3 of 95. -/
theorem test_decode_records :
    decode (.record .sidCreate [8580, 44100, 985248, 357, 0]) = .ok (.sidCreate 8580 ⟨44100, 985248, 357, 0⟩)
      ∧ decode (.record .sidReset []) = .ok .sidReset
      ∧ decode (.record .sidWrite [0x04, 0x11]) = .ok (.sidWrite 0x04 0x11)
      ∧ decode (.record .sidRead [0x1C]) = .ok (.sidRead 0x1C)
      ∧ decode (.record .sidAdvance [9]) = .ok (.sidAdvance 9)
      ∧ decode (.record .sidRender []) = .ok .sidRender
      ∧ decode (.record .snCreate [0, 3579545, 44100, 85111677, 1, 9, 0x8000, 2, 255, 0])
          = .ok (.snCreate ⟨0, 3579545, 44100, 85111677, 1, 9, 0x8000, 2, [255, 0]⟩)
      ∧ decode (.record .snReset []) = .ok .snReset
      ∧ decode (.record .snWrite [0x80]) = .ok (.snWrite 0x80)
      ∧ decode (.record .snGgWrite [0x80]) = .ok (.snGgWrite 0x80)
      ∧ decode (.record .snSetMute [1, 1]) = .ok (.snSetMute 1 1)
      ∧ decode (.record .snStep []) = .ok .snStep
      ∧ decode (.record .snStepStereo []) = .ok .snStepStereo :=
  ⟨rfl, rfl, rfl, rfl, rfl, rfl, rfl, rfl, rfl, rfl, rfl, rfl, rfl⟩

/-- A record with a wrong operand count and an offset above 0x1C are refused by name. -/
theorem test_decode_refuses :
    decode (.record .sidWrite [0x04]) = .error (.notAnOperation .sidWrite)
      ∧ decode (.record .sidReset [1]) = .error (.notAnOperation .sidReset)
      ∧ decode (.sidBus 0x1D#8 0#8) = .error (.noSuchOffset 0x1D#8)
      ∧ decode (.sidBus 0x20#8 0#8) = .error (.noSuchOffset 0x20#8) :=
  ⟨rfl, rfl, rfl, rfl⟩

/-- Every opcode-table word with a bit pattern runs as the first operation after reset. -/
theorem test_table_words_run :
    (List.range 29 ++ [0x20, 0x80, 0x90, 0xA0, 0xB0, 0xC0, 0xD0, 0xE0, 0xF0]).all
      (fun w => match step (State.reset.withFetchWord 8 w) with | .next t => t.pos == 1 | _ => false) = true := by
  decide

-- ---- well-formedness: one ill-formed term for each check

/-- A configuration of SN_CREATE with the candidates of 00_scope R7. -/
def goodSn : SnArgs where
  quality := 0
  clock := 3579545
  sampleRate := 44100
  baseIncr := 85111677
  smoothShift := 1
  whiteTap := 9
  noiseSeed := 0x8000
  frefMult := 2
  volTable := [0xFF, 0xCB, 0xA1, 0x80, 0x65, 0x50, 0x40, 0x33, 0x28, 0x20, 0x19, 0x14, 0x10, 0x0C, 0x0A, 0x00]

/-- Well-formed operations, at the ends of their ranges. -/
theorem test_wf_accepts :
    [Instr.sidCreate 8580 ⟨44100, 985248, 357, 0⟩, .sidCreate 6581 ⟨1, 1, 4096, 0⟩, .sidCreate 6581 ⟨1, 1, 1, 0⟩,
      .sidWrite 0x1C 0xFF, .sidWrite 0 0, .sidRead 0x1C, .sidAdvance 0, .snWrite 0xFF, .snGgWrite 0xFF, .snSetMute 2 1,
      .snCreate goodSn].all Instr.wellFormed = true := by
  decide

/-- Each check of the SID operations refuses (V-MEM-4 to V-MEM-6, V-ENV-15, V-RST-3). -/
theorem test_wf_refuses_sid :
    [Instr.sidCreate 6582 ⟨44100, 985248, 357, 0⟩, .sidCreate 8580 ⟨0, 985248, 357, 0⟩, .sidCreate 8580 ⟨44100, 0, 357, 0⟩,
      .sidCreate 8580 ⟨44100, 985248, 0, 0⟩, .sidCreate 8580 ⟨44100, 985248, 4097, 0⟩, .sidWrite 0x1D 0, .sidWrite (-1) 0,
      .sidWrite 0 0x100, .sidWrite 0 (-1), .sidRead 0x1D, .sidRead (-1), .sidAdvance (-1)].any Instr.wellFormed = false := by
  decide

/-- Each check of the SN76489 operations refuses (V-SN-15, V-RST-5). -/
theorem test_wf_refuses_sn :
    [Instr.snWrite 0x100, .snWrite (-1), .snGgWrite 0x100, .snGgWrite (-1), .snSetMute 3 0, .snSetMute (-1) 0, .snSetMute 0 2,
      .snSetMute 0 (-1), .snCreate { goodSn with quality := 2 }, .snCreate { goodSn with sampleRate := 0 },
      .snCreate { goodSn with sampleRate := 2 ^ 31 + 1 }, .snCreate { goodSn with clock := 15 },
      .snCreate { goodSn with clock := 2 ^ 35 + 16 }, .snCreate { goodSn with baseIncr := -1 },
      .snCreate { goodSn with smoothShift := -1 }, .snCreate { goodSn with noiseSeed := 0 },
      .snCreate { goodSn with noiseSeed := 0x10000 }, .snCreate { goodSn with whiteTap := -1 },
      .snCreate { goodSn with whiteTap := 0x10000 }, .snCreate { goodSn with frefMult := 3 },
      .snCreate { goodSn with volTable := [1] }, .snCreate { goodSn with volTable := -1 :: goodSn.volTable.drop 1 }].any
      Instr.wellFormed = false := by
  decide

-- ---- helpers for single steps

/-- The state after an operation that goes on; reset otherwise. -/
def after (r : Res) : State :=
  match r with
  | .next t => t
  | _ => State.reset

/-- Whether an operation goes on. -/
def goesOn (r : Res) : Bool :=
  match r with
  | .next _ => true
  | _ => false

/-- The refusal of an operation. -/
def refusal (r : Res) : Option Refusal :=
  match r with
  | .refused x => some x
  | _ => none

/-- Registers written on a state. -/
def withRegs (l : List (Nat × Byte)) (s : State) : State := l.foldl (fun t x => storeReg x.1 x.2 t) s

/-- The envelope tuple of 95 section 0. -/
structure EnvTuple where
  gate : Bool
  atk : Bool
  ds : Bool
  holdn : Bool
  rc : Nat
  env : Nat
  exp : Nat
deriving DecidableEq, Repr

/-- A voice's envelope tuple. -/
def envTuple (V : Voice) : EnvTuple := ⟨V.gate, V.atk, V.ds, V.holdn, V.rc, V.env, V.exp⟩

/-- A voice with an envelope tuple. -/
def envVoice (gate atk ds holdn : Bool) (rc env exp : Nat) : Voice :=
  { Voice.reset 0x7FFFF8 with gate := gate, atk := atk, ds := ds, holdn := holdn, rc := rc, env := env, exp := exp }

/-- Voice 0 replaced on a state. -/
def withVoice0 (V : Voice) (s : State) : State := { s with sid := { s.sid with voices := { s.sid.voices with a0 := V } } }

/-- The SN76489 instance after creation. -/
def sn0 : Sn := Sn.created SnConfig.reset

-- ---- register bank (95 section 2.1)

/-- V-MEM-1, V-MEM-3 and V-MEM-8. -/
theorem test_write_read :
    readReg (after (exec (.sidWrite 0x04 0x11) State.reset)) 4 = 0x11#8
      ∧ (after (exec (.sidRead 0x18) (withRegs [(0x18, 0x5A#8)] State.reset))).outputs = [.byte 0x5A#8]
      ∧ readReg (after (exec (.sidWrEnv3 0x77#8) State.reset)) 0x1C = 0x77#8
      ∧ readReg (after (exec (.sidWrPotx 0x42#8) State.reset)) 0x19 = 0x42#8 := by
  decide

/-- V-MEM-4 to V-MEM-6, V-ENV-15 and V-SN-15. -/
theorem test_refusals :
    [exec (.sidWrite 0x1D 0) State.reset, exec (.sidWrite 0 0x100) State.reset, exec (.sidRead 0x1D) State.reset,
      exec (.sidAdvance (-1)) State.reset, exec (.snWrite 0x100) State.reset, exec (.snGgWrite 0x100) State.reset,
      exec (.snSetMute 3 0) State.reset, exec (.snSetMute 0 2) State.reset].all
      (fun r => refusal r == some .badOperand) = true := by
  decide

/-- V-MEM-7: PW_HI is stored whole and bits 7..4 have no effect. -/
theorem test_pw_hi_unused_bits :
    readReg (after (exec (.sidWrV0PwHi 0xFF#8) State.reset)) 3 = 0xFF#8
      ∧ pwReg (after (exec (.sidWrV0PwHi 0xFF#8) State.reset)).sid.reg .i0 = 0xF00 := by
  decide

-- ---- envelope (95 section 2.2)

/-- V-ENV-1, V-ENV-6, V-ENV-11 and the last advance of V-ENV-2. -/
theorem test_advance_attack :
    envTuple (after (exec (.sidAdvance 9) (withRegs [(4, 0x11#8)] State.reset))).sid.voices.a0
        = ⟨true, true, true, true, 0, 1, 0⟩
      ∧ envTuple (advanceVoice candidateParams 0x11 0 0 0 (envVoice false false false false 5 0 0))
        = ⟨true, true, true, true, 5, 0, 0⟩
      ∧ envTuple (advanceVoice candidateParams 0x11 0 0 9 (envVoice false false false true 0 255 7))
        = ⟨true, false, true, true, 0, 255, 0⟩
      ∧ envTuple (advanceVoice candidateParams 0x11 0 0xF0 9 (envVoice true true true true 0 254 0))
        = ⟨true, false, true, true, 0, 255, 0⟩ := by
  decide

/-- V-ENV-9, V-ENV-10, V-ENV-12, V-ENV-13, V-ENV-14 and V-ENV-7 at the wrap. -/
theorem test_advance_decay :
    envTuple (advanceVoice candidateParams 0x11 0 0xF0 9 (envVoice true false true true 0 100 0))
        = ⟨true, false, true, true, 0, 99, 0⟩
      ∧ envTuple (advanceVoice candidateParams 0x11 0 0 9 (envVoice true false true true 0 6 29))
        = ⟨true, false, true, true, 0, 5, 0⟩
      ∧ envTuple (advanceVoice candidateParams 0x10 0 0x01 9 (envVoice false false false true 27 200 0))
        = ⟨false, false, false, true, 4, 199, 0⟩
      ∧ envTuple (advanceVoice candidateParams 0x10 0 0 4 (envVoice false false false true 8 0 0))
        = ⟨false, false, false, false, 3, 0, 0⟩
      ∧ envTuple (advanceVoice candidateParams 0x11 0x0F 0x8F 9 (envVoice true false true true 0 136 0))
        = ⟨true, false, true, true, 9, 136, 0⟩
      ∧ envTuple (advanceVoice candidateParams 0x11 0 0x0F 9 (envVoice true true true true 32762 0 0))
        = ⟨true, true, true, true, 3, 0, 0⟩ := by
  decide

-- ---- waveforms (95 section 2.3)

/-- V-WAV-2. -/
theorem test_triangle :
    [0x0000000, 0x4000000, 0x7FFFFFF, 0x8000000, 0xC000000, 0xFFFFFFF, 0x1234567].map (fun a => triangle a 0)
      = [0x0000, 0x8000, 0xFFFF, 0xFFFF, 0x7FFF, 0x0000, 0x2468] := by
  decide

/-- V-WAV-4 and V-WAV-5. -/
theorem test_saw :
    [0x0000, 0x8000, 0xEC00, 0xED98, 0xED99, 0xF000, 0xFFF0, 0xFFFF].map (fun w0 => saw candidateParams w0 23395995)
        = [0x0000, 0x89EA, 0xFE48, 0xFFFF, 0xFFF3, 0xDE91, 0x00E8, 0x0019]
      ∧ [0x0000, 0x8000, 0xFFFF].map (fun w0 => saw candidateParams w0 0) = [0x0000, 0x8000, 0xFFFF] := by
  decide

/-- V-WAV-6 to V-WAV-9. -/
theorem test_trapezoid :
    [0x0000, 0x4000, 0x7E9C, 0x7F00, 0x7FFF, 0x8000, 0xC000, 0xFE9C, 0xFF00, 0xFFFF].map
        (fun ph => trapezoid candidateParams ph 0x8000 1462272 false)
        = [0x0000, 0x0000, 0x0183, 0x48FF, 0xFF48, 0xFFFF, 0xFFFF, 0xFDC6, 0xB64A, 0x0001]
      ∧ [0x0000, 0x8000, 0xFFFF].map (fun ph => trapezoid candidateParams ph 0 1462272 false) = [0xFFFF, 0xFFFF, 0xFFFF]
      ∧ [0x7FFF, 0x8000].map (fun ph => trapezoid candidateParams ph 0x8000 0 false) = [0x0000, 0xFFFF] := by
  decide

/-- V-WAV-10. -/
theorem test_pulse_width :
    [0x001, 0x800, 0xFFF].map (fun p => pulseWidth candidateParams p 1462272) = [178, 0x8000, 65357] := by
  decide

/-- V-WAV-12, V-WAV-15 and V-WAV-17. -/
theorem test_noise_and_blend :
    noiseOut 0x7FFFF8 = 0xFC00 ∧ lfsrStep 0x7FFFF8 false = 0x7FFFF0 ∧ noiseOut 0x7FFFC0 = 0xF800
      ∧ lfsrStep 0x7FFFF8 true = 0x7FFFF1 ∧ lfsrStep 0x7FFFE3 true = 0x7FFFC7 ∧ noiseOut 0x7FFFC7 = 0xFB00
      ∧ [0, 1, 2, 0x10, 0xFF].map blendCoeff = [0xFFFF, 0xFFFF, 0xBBBB, 0x7FFF, 0x7800]
      ∧ blend 0x10 0xFFFF 0 = 32766 ∧ blend 0x10 0xFFFF 32766 = 49149 ∧ blend 1 0xFFFF 65534 = 65534 := by
  decide

/-- V-WAV-1 and V-WAV-3: the accumulator, and ring modulation by the previous voice's MSB. -/
theorem test_render_voice :
    (renderVoice candidateParams .mos8580 357 (withRegs [(1, 0x10#8), (4, 0x10#8)] State.reset).sid.reg .i0
        (Voice.reset 1) false 0).w = 0x02CA
      ∧ nextAcc 0xFFF0000 0x165000 false false false = 0x0155000
      ∧ (renderVoice candidateParams .mos8580 357 (withRegs [(11, 0x14#8)] State.reset).sid.reg .i1
        { Voice.reset 1 with acc := 0x4000000, pacc := 0x4000000 } false (2 ^ 27)).w = 0x7FFF
      ∧ (renderVoice candidateParams .mos8580 357 (withRegs [(11, 0x12#8)] State.reset).sid.reg .i1
        { Voice.reset 1 with acc := 0x3000000, pacc := 0x3000000 } true 0).voice.acc = 0 := by
  decide

-- ---- filter and mixer (95 section 2.4)

/-- V-MIX-1 and V-MIX-2. -/
theorem test_contribution_and_output :
    [(0xFFFF, 255), (0x0000, 255), (0x0100, 255), (0x8000, 255), (0x7FFF, 1), (0x8001, 1), (0xFFFF, 0)].map
        (fun x => contribution x.1 x.2) = [32639, -32640, -32385, 0, -1, 0, 0]
      ∧ [32639, -32640, -32385, 0, -1].map (fun c => truncDiv (c * 15) 60) = [8159, -8160, -8096, 0, 0] := by
  decide

/-- V-MIX-6, the first two renders. -/
theorem test_integrators :
    integrate (-31929) 0 0 1024 4096 = ⟨-31929, 7983, 1995⟩ ∧ integrate (-31218) 7983 1995 1024 4096 = ⟨-21240, 13293, 5318⟩ := by
  decide

/-- V-MIX-3 and V-MIX-4: a render from reset at full volume, and the end of P1. -/
theorem test_render :
    (after (exec .sidRender (withRegs [(0x18, 0x0F#8)] State.reset))).outputs = [.sample 0]
      ∧ (after (exec .sidRender (withVoice0 (envVoice true false true true 0 255 0)
          (withRegs [(4, 0x11#8), (0x18, 0x0F#8)] State.reset)))).outputs = [.sample (-8160)] := by
  decide

/-- The fourth render of P2 (V-MIX-5): voice 2 at 255, the read-backs and the sample. -/
theorem test_render_read_backs :
    let s := withRegs [(0x0F, 0x10#8), (0x12, 0x11#8), (0x18, 0x0F#8)]
      { State.reset with sid := { State.reset.sid with voices := { State.reset.sid.voices with
        a2 := { envVoice true false true true 0 255 0 with acc := 0x42F000, pacc := 0x42F000 } } } }
    let t := after (exec .sidRender s)
    t.outputs = [.sample (-7449)] ∧ readReg t 0x1B = 0x0B#8 ∧ readReg t 0x1C = 0xFF#8 ∧ t.sid.voices.a2.acc = 0x594000 := by
  decide

/-- P6, interleaving A within one render: `FREQ_LO` is written before the render and `FREQ_HI` after voice 0's sub-step, so
the render sees the torn value 0 and the next one sees 0x0100 (20_memory R67). -/
theorem test_torn_frequency :
    let s := withRegs [(0, 0x00#8), (1, 0x00#8), (4, 0x10#8)] (withVoice0 { Voice.reset 1 with acc := 91035, pacc := 91035 } State.reset)
    let t := after (exec .sidRender { s with arrivals := [[.sidWrite 1 0x01#8]] })
    t.sid.voices.a0.acc = 91035 ∧ readReg t 1 = 0x01#8
      ∧ (after (exec .sidRender t)).sid.voices.a0.acc = 182427 := by
  decide

-- ---- SN76489 (95 section 2.5)

/-- V-SN-4 and V-SN-5. -/
theorem test_sn_writes :
    (snByte 0x3F (snByte 0x8A sn0)).tones.a0.freq = 1018
      ∧ (snByte 0x25 (snByte 0x9F (snByte 0x3F (snByte 0x8A sn0)))).tones.a0.freq = 1018
      ∧ (snByte 0x7F (snByte 0xC5 sn0)).tones.a2.freq = 1013
      ∧ (snByte 0x21 (snByte 0x12 (snByte 0xA3 sn0))).tones.a1.freq = 531
      ∧ (snByte 0xF7 sn0).noise.vol = 7 := by
  decide

/-- V-SN-5 and V-SN-8: noise control, bit 3 ignored, and the reseed. -/
theorem test_sn_noise_control :
    let g := snByte 0xED { sn0 with noise := { sn0.noise with seed := 0x0900 } }
    g.noise.mode = true ∧ g.noise.rate = 1 ∧ g.noise.seed = 0x8000 ∧ g.adr = 6 := by
  decide

/-- V-SN-1: the first step after the forced-high writes; the units and the fraction. -/
theorem test_sn_step :
    let t := after (exec .snStep { State.reset with sn := snByte 0x90 sn0 })
    t.outputs = [.sample 247] ∧ t.sn.bacc = 1225597 ∧ t.sn.tones.a0.edge = true := by
  decide

/-- V-SN-14: the first call of quality mode runs 6 units. -/
theorem test_sn_quality :
    (rateAdvance { sn0 with cfg := { sn0.cfg with quality := true } }).stime = 8893
      ∧ (rateAdvance { sn0 with cfg := { sn0.cfg with quality := true } }).noise.cnt = 6 := by
  decide

/-- V-SN-6: divider 2 toggles every second unit. -/
theorem test_sn_tone_units :
    let t := { Tone.reset with freq := 2 }
    ((toneUnit t).edge, (toneUnit t).cnt) = (false, 1) ∧ (toneUnit (toneUnit t)).edge = true
      ∧ (toneUnit { Tone.reset with freq := 4, cnt := 10 }).edge = true := by
  decide

/-- V-SN-8, V-SN-10 and V-SN-11: the LFSR in white and periodic mode, and the period of rate 3. -/
theorem test_sn_noise_units :
    noiseLfsrStep true 9 0x0008 = 0x8004 ∧ noiseLfsrStep true 9 0x2001 = 0x9000 ∧ noiseLfsrStep false 9 0x0001 = 0x8000
      ∧ noisePeriod (snByte 0xE7 sn0) = 1 ∧ noisePeriod (snByte 0xE3 (snByte 0x00 (snByte 0xC5 sn0))) = 10
      ∧ noisePeriod (snByte 0xE2 sn0) = 128 := by
  decide

/-- V-SN-12: the stereo mask, on settled outputs. -/
theorem test_sn_stereo :
    let g (b : Byte) := setStereo b { sn0 with tones := { sn0.tones with a0 := { sn0.tones.a0 with chout := 254 } } }
    [0xFF#8, 0x10#8, 0x01#8, 0xF0#8, 0x0F#8, 0x00#8].map (fun b => (leftMix (g b), rightMix (g b)))
      = [(254, 254), (254, 0), (0, 254), (254, 0), (0, 254), (0, 0)] := by
  decide

/-- The example of 43 R249, and the last call of P4 in stereo from its state before. -/
theorem test_sn_mute_and_stereo_step :
    (after (exec (.snSetMute 1 1) State.reset)).sn.tones.a1.mute = true
      ∧ (after (exec (.snSetMute 1 1) State.reset)).sn.tones.a0.mute = false
      ∧ (after (exec .snStepStereo { State.reset with sn := { sn0 with stereo := 0x80#8, bacc := 3676791, adr := 6, noise := ⟨0, true, 3, 0x2001, 0, 127⟩ } })).outputs
        = [.stereo 3 0] := by
  decide

-- ---- creation and reset (95 section 2.6)

/-- V-RST-1 and V-RST-2. -/
theorem test_create_and_reset :
    (after (exec (.sidCreate 8580 ⟨44100, 985248, 357, 0⟩) (withRegs [(4, 0x11#8)] State.reset))).sid = State.reset.sid
      ∧ (after (exec .sidReset (withVoice0 (envVoice true false true true 0 136 0) (withRegs [(4, 0x11#8)] State.reset)))).sid.voices.a0
        = Voice.reset 0x7FFFF8
      ∧ readReg (after (exec .sidReset (withRegs [(4, 0x11#8)] State.reset))) 4 = 0x11#8 := by
  decide

/-- V-RST-3 to V-RST-5. -/
theorem test_create_refusals :
    [exec (.sidCreate 8580 ⟨44100, 985248, 0, 0⟩) State.reset, exec (.sidCreate 8580 ⟨0, 985248, 357, 0⟩) State.reset,
      exec (.sidCreate 8580 ⟨44100, 985248, 4097, 0⟩) State.reset, exec (.sidCreate 8580 ⟨44100, 985248, 357, -60⟩) State.reset,
      exec (.snCreate { goodSn with noiseSeed := 0 }) State.reset, exec (.snCreate { goodSn with frefMult := 3 }) State.reset].all
      (fun r => refusal r == some .badConfig) = true := by
  decide

/-- V-RST-6, and SN_CREATE with the candidates. -/
theorem test_sn_create_and_reset :
    (after (exec .snReset { State.reset with sn := snByte 0xE4 (snByte 0x90 (snByte 0x8A sn0)) })).sn = sn0
      ∧ (after (exec (.snCreate goodSn) { State.reset with sn := snByte 0x8A sn0 })).sn = sn0 := by
  decide

-- ---- pseudo-operations (30_encoding R111)

/-- `wrfreq 2, 0x1000` and `sntone 0, 0`, as in P2 and P3. -/
theorem test_expand :
    expand (.wrfreq .i2 0x1000) = [.sidWrite 0x0E 0x00, .sidWrite 0x0F 0x10]
      ∧ expand (.sntone .i0 0) = [.snWrite 0x80, .snWrite 0x00] ∧ expand (.snvol 3 0) = [.snWrite 0xF0] := by
  decide

-- ---- witnesses: states and operands that meet the hypotheses of the statements, each clause at a boundary

/-- An operation that goes on answers the state `after` gives. -/
theorem next_of_goesOn {r : Res} (h : goesOn r = true) : r = .next (after r) := by
  cases r with
  | next t => rfl
  | fault f => cases h
  | refused x => cases h

/-- Reset with every register block in use, voice 0 in Attack near its top, voice 1 in Sustain, voice 2 released and silent,
the SN76489 on the noise latch, operations to come and one arrival. -/
def busy : State :=
  { withRegs [(0, 0xFF#8), (1, 0xFF#8), (4, 0x81#8), (5, 0x09#8), (6, 0xF5#8), (11, 0x41#8), (0x17, 0xF0#8), (0x18, 0x0F#8)]
      State.reset with
    sid :=
      { (withRegs [(0, 0xFF#8), (1, 0xFF#8), (4, 0x81#8), (5, 0x09#8), (6, 0xF5#8), (11, 0x41#8), (0x17, 0xF0#8), (0x18, 0x0F#8)]
          State.reset).sid with
        voices := ⟨envVoice true true true true 8 254 0, envVoice true false true true 32767 255 0,
          envVoice false false false false 0 0 0⟩ }
    sn := snByte 0xE7 (snByte 0x8A sn0)
    queue := [.sidBus 0x1C#8 0xFF#8, .record .snSetMute [2, 1], .sidBus 0x1D#8 0x00#8, .record .sidWrite [0]] }

theorem test_witness_decode_code :
    decode (.sidBus 0x1C#8 0xFF#8) = .ok (.sidWrEnv3 0xFF#8) ∧ decode (.record .snSetMute [2, 1]) = .ok (.snSetMute 2 1)
      ∧ decode (.snBus 0xEF#8) = .ok (.snLatchNoiseCtrl 1#1 1#1 3#2) := by
  decide

theorem test_witness_rows_of_one_byte :
    (Instr.snLatchNoiseCtrl 0#1 0#1 0#2).row = some ⟨0xF0#8, 0xE0#8⟩ ∧ (Instr.snLatchNoiseCtrl 1#1 1#1 3#2).row = some ⟨0xF0#8, 0xE0#8⟩
      ∧ (⟨0xF0#8, 0xE0#8⟩ : Row).hits 0xE7#8 = true ∧ (⟨0x1F#8, 0x1C#8⟩ : Row).hits 0x1C#8 = true ∧ (Instr.sidWrEnv3 0#8).row = some ⟨0x1F#8, 0x1C#8⟩
      ∧ (⟨0x1F#8, 0x1C#8⟩ : Row).hits 0xFC#8 = true := by
  decide

/-- A code with an instruction, one with an offset the bank does not have, and an empty queue. -/
theorem test_witness_step :
    (busy.queue = .sidBus 0x1C#8 0xFF#8 :: busy.queue.drop 1 ∧ decode (.sidBus 0x1C#8 0xFF#8) = .ok (.sidWrEnv3 0xFF#8))
      ∧ decode (.sidBus 0x1D#8 0x00#8) = .error (.noSuchOffset 0x1D#8)
      ∧ decode (.record .sidWrite [0]) = .error (.notAnOperation .sidWrite) ∧ State.reset.queue = [] := by
  decide

/-- With no channel, the divisor 0 is refused and the divisor 1 is not (70 R320); a negative attenuation is no natural
(00_scope R7, 30_encoding R81). -/
theorem test_witness_refused_divisor :
    refusal (exec (.sidCreate 6581 ⟨1, 1, 1, 0⟩) { State.reset with params := { candidateParams with channelCount := 0 } }) = some .badConfig
      ∧ goesOn (exec (.sidCreate 6581 ⟨1, 1, 4096, 1⟩) { State.reset with params := { candidateParams with channelCount := 0 } }) = true
      ∧ refusal (exec (.sidCreate 8580 ⟨1, 1, 1, -1⟩) State.reset) = some .badConfig
      ∧ refusal (exec (.sidWrite 0x1D 0) State.reset) = some .badOperand
      ∧ refusal (exec (.sidWrite 0x1C 0x100) State.reset) = some .badOperand
      ∧ (Instr.sidWrite 0x1D 0).wellFormed = false := by
  decide

/-- Canonical banks, empty and in use, and the last offset and byte. -/
theorem test_witness_register_writes :
    bankWf State.reset.sid.reg = true ∧ bankWf busy.sid.reg = true ∧ goesOn (exec (.sidWrite 0x1C 0xFF) busy) = true
      ∧ goesOn (exec (.sidRead 0x1C) busy) = true ∧ refusal (exec (.sidRead 0x1D) busy) = some .badOperand := by
  decide

/-- Renders that go on, from a state with no arrivals. -/
theorem test_witness_render_goes_on :
    bankWf busy.sid.reg = true ∧ busy.arrivals = [] ∧ exec .sidRender busy = .next (after (exec .sidRender busy))
      ∧ exec .sidRender State.reset = .next (after (exec .sidRender State.reset)) :=
  ⟨by decide, rfl, next_of_goesOn (by decide), next_of_goesOn (by decide)⟩

/-- Bytes at one offset that differ only in bits no rule reads, at each such offset, and renders after storing them. -/
theorem test_witness_unread_bits :
    0xF5#8 &&& 0x0F#8 = 0x05#8 &&& 0x0F#8 ∧ 0xFD#8 &&& 0x07#8 = 0x05#8 &&& 0x07#8 ∧ 0xFF#8 &&& 0xF7#8 = 0xF7#8 &&& 0xF7#8
      ∧ [(0x03, 0xF5#8), (0x0A, 0xF5#8), (0x11, 0xF5#8), (0x15, 0xFD#8), (0x17, 0xF8#8), (0x19, 0xFF#8), (0x1C, 0xFF#8)].all
        (fun x => goesOn (exec .sidRender (storeReg x.1 x.2 busy))) = true := by
  decide

/-- TEST set; SYNC set with the rise flag; SYNC set without it. -/
theorem test_witness_accumulator :
    let m (d : Byte) := writeBank [] 4 d
    Machine.testBit (controlReg (m 0x08#8) .i0) = true ∧ syncBit (controlReg (m 0x02#8) .i0) = true
      ∧ ¬(Machine.testBit (controlReg (m 0x02#8) .i0) = true ∨ (syncBit (controlReg (m 0x02#8) .i0) = true ∧ false = true)) := by
  decide

theorem test_witness_advance :
    busy.arrivals = [] ∧ goesOn (exec (.sidAdvance 0) busy) = true ∧ refusal (exec (.sidAdvance (-1)) busy) = some .badOperand
      ∧ (∀ v ∈ [busy.sid.voices.a0, busy.sid.voices.a1, busy.sid.voices.a2], v.env ≤ 255 ∧ v.rc < 32768) := by
  decide

theorem test_witness_arrivals :
    let s : State := { busy with arrivals := [[.sidWrite 1 0#8], [.snWrite 0x9F#8], [], []] }
    s.arrivals = [.sidWrite 1 0#8] :: [.snWrite 0x9F#8] :: [[], []]
      ∧ s.arrivals = [.sidWrite 1 0#8] :: [.snWrite 0x9F#8] :: [] :: [[]]
      ∧ ({ busy with arrivals := [[.sidRead 28]] } : State).arrivals = [[.sidRead 28]]
      ∧ ({ busy with arrivals := [[.sidRead 28], [.snSetMute .i2 true]] } : State).arrivals
        = [[.sidRead 28], [.snSetMute .i2 true]]
      ∧ busy.arrivals = [] :=
  ⟨rfl, rfl, rfl, rfl, rfl⟩

/-- A rising edge, a falling edge with the rate counter at its top, and no edge. -/
theorem test_witness_gate_edges :
    let s := withVoice0 (envVoice false false false false 0 7 0) (withRegs [(4, 0x01#8)] State.reset)
    let t := withVoice0 (envVoice true false true true 32767 7 0) State.reset
    (s.sid.voices.a0.gate = false ∧ bit (controlReg s.sid.reg .i0) 0 = true)
      ∧ (t.sid.voices.a0.gate = true ∧ bit (controlReg t.sid.reg .i0) 0 = false ∧ t.sid.voices.a0.rc < 32768)
      ∧ s.arrivals = [] ∧ t.arrivals = [] ∧ (State.reset.sid.voices.a0.gate = bit (controlReg State.reset.sid.reg .i0) 0) := by
  decide

/-- With period 9: no match at n = 8, a match at n = 9 and at n = P + c - 1, and a sum of 32767. -/
theorem test_witness_rate_counter :
    let p := periodInForce candidateParams 0 0 (envVoice true true true true 0 0 0)
    p = 9 ∧ (0 + 8) % 32768 < p ∧ p ≤ (0 + 9) % 32768 ∧ (0 + 9) % 32768 < p + 9
      ∧ p ≤ (8 + 9) % 32768 ∧ (8 + 9) % 32768 < p + 9 ∧ 32758 + 9 < 32768
      ∧ gateEdges 1 (envVoice true true true true 8 0 0) = envVoice true true true true 8 0 0 := by
  decide

/-- The three segments. -/
theorem test_witness_segments :
    (envVoice true true true true 0 0 0).atk = true
      ∧ ((envVoice true false true true 0 0 0).atk = false ∧ (envVoice true false true true 0 0 0).ds = true)
      ∧ ((envVoice false false false true 0 0 0).atk = false ∧ (envVoice false false false true 0 0 0).ds = false) := by
  decide

/-- Exponent periods 30 at level 6 and 16 at level 7: one below the period and at it; and a voice with holdn clear. -/
theorem test_witness_exponent_counter :
    (envVoice true false true true 0 6 29).exp + 1 = expPeriod candidateParams 6
      ∧ (envVoice true false true true 0 6 28).exp + 1 ≠ expPeriod candidateParams 6
      ∧ (envVoice true false true true 0 7 15).exp + 1 = expPeriod candidateParams 7
      ∧ (envVoice false false false false 0 0 0).holdn = false := by
  decide

/-- Attack at 253 and at 254; decay at the sustain level 0x55, at 2, at 1 and at 0; release at the sustain level. -/
theorem test_witness_envelope_steps :
    (envVoice true true true true 0 253 0).env + 1 < 255 ∧ 255 ≤ (envVoice true true true true 0 254 0).env + 1
      ∧ (envVoice true false true true 0 0x55 0).env = 17 * (0x50 / 16 % 16)
      ∧ (2 ≤ (envVoice true false true true 0 2 0).env ∧ (envVoice true false true true 0 2 0).env ≠ 17 * (0x50 / 16 % 16))
      ∧ ((envVoice false false false true 0 0x55 0).ds = false ∧ 2 ≤ (envVoice false false false true 0 0x55 0).env)
      ∧ ((envVoice false false false true 0 1 0).env ≤ 1 ∧ (envVoice false false false true 0 0 0).holdn = true) := by
  decide

/-- A silent voice, at a level a release left and with the gate bit clear. -/
theorem test_witness_silent_voice :
    let V := envVoice false false false false 0 0 0
    V.gate = false ∧ V.atk = false ∧ V.ds = false ∧ V.holdn = false ∧ 0x80 % 2 = 0 := by
  decide

/-- The counter one below the period 9 with c = 9; and period 32767 with c = 1, the largest sum without a wrap. -/
theorem test_witness_no_period_is_skipped :
    let V := envVoice true true true true 8 0 0
    let P := { candidateParams with prescaleRest := List.replicate 15 32767 }
    let U := envVoice true true true true 32766 0 0
    (gateEdges 1 V = V ∧ V.rc < periodInForce candidateParams 0 0 V ∧ CadenceOk (periodInForce candidateParams 0 0 V) 9)
      ∧ (gateEdges 1 U = U ∧ U.rc < periodInForce P 0x10 0 U ∧ CadenceOk (periodInForce P 0x10 0 U) 1) := by
  decide

/-- The last advance before the top: 254 advances of 9 cycles from level 0, and level 253 one period on. -/
theorem test_witness_attack_level :
    let V := envVoice true true true true 0 0 0
    let U := envVoice true true true true 8 253 0
    (V.gate = true ∧ V.atk = true ∧ V.ds = true ∧ V.holdn = true ∧ 1 % 2 = 1 ∧ V.rc < prescale candidateParams (0 / 16 % 16)
        ∧ CadenceOk (prescale candidateParams (0 / 16 % 16)) 9 ∧ V.env + (V.rc + 254 * 9) / 9 < 255)
      ∧ (U.rc < 9 ∧ U.env + (U.rc + 1 * 9) / 9 < 255 ∧ U.holdn = true) := by
  decide

/-- Sustain nibble 15, and the counts 1, 254 and 255 of advances. -/
theorem test_witness_full_attack :
    0x41 % 2 = 1 ∧ 0xF5 / 16 % 16 = 15 ∧ 1 ≤ 1 ∧ 254 < 255 ∧ 255 ≤ 255 := by
  decide

/-- A noise voice clocked by a step of at least 2^24, and one whose step is 0. -/
theorem test_witness_noise_clock :
    (bit (controlReg busy.sid.reg .i0) 7 = true ∧ 2 ^ 24 ≤ phaseStep (freqReg busy.sid.reg .i0) busy.sid.cfg.clockRatio)
      ∧ (bit (controlReg busy.sid.reg .i1) 7 = false
        ∧ phaseStep (freqReg busy.sid.reg .i1) busy.sid.cfg.clockRatio < 2 ^ 24) := by
  decide

/-- One waveform computation at the top of every range, for a selector. -/
def topWave (wf : Nat) (test : Bool) (pwreg : Nat) : WaveIn :=
  ⟨.mos8580, wf, test, 2 ^ 28 - 1, 0, 2 ^ 28 - 1, 2 ^ 27, pwreg, 0xFF, 1, 0xFFFF, 0xFFFF⟩

theorem test_witness_waveform :
    (topWave 15 true 0).acc < 2 ^ 28 ∧ (topWave 15 true 0).pwav ≤ 0xFFFF ∧ (topWave 15 true 0).pblend ≤ 0xFFFF
      ∧ (topWave 15 true 0).freqHi ≤ 0xFF ∧ ((topWave 15 true 0).rsrc = 0 ∨ (topWave 15 true 0).rsrc = 2 ^ 27)
      ∧ (topWave 15 true 0).wf ≤ 15 ∧ (topWave 8 true 0).wf = 8 ∧ 9 ≤ (topWave 9 true 0).wf ∧ (topWave 3 true 0).wf = 3 := by
  decide

/-- The ends of the two halves of the phase, the largest step whose correction is 1, and with the correction 100 the two
phases between which the sawtooth turns; the selectors. -/
theorem test_witness_triangle_and_saw :
    2 ^ 27 - 1 < 2 ^ 27 ∧ 2 ^ 27 ≤ 2 ^ 27 ∧ 2 ^ 28 - 1 < 2 ^ 28 ∧ (9215 >>> 4) / candidateParams.sawK ≤ 1
      ∧ ¬(9216 >>> 4) / candidateParams.sawK ≤ 1
      ∧ (65436 + 65436 * max 1 (460800 / 16 / candidateParams.sawK) / 2 ^ 16 ≤ 0xFFFF
        ∧ 0x10000 ≤ 65437 + 65437 * max 1 (460800 / 16 / candidateParams.sawK) / 2 ^ 16)
      ∧ (topWave 1 true 0).wf = 1 ∧ (topWave 2 true 0).wf = 2 := by
  decide

/-- A voice with the selector 0 and one with another. -/
theorem test_witness_floating_output :
    regNat busy.sid.reg (7 * num .i2 + 4) / 16 % 16 = 0 ∧ regNat busy.sid.reg (7 * num .i1 + 4) / 16 % 16 ≠ 0
      ∧ bit (controlReg busy.sid.reg .i2) 3 = false ∧ bit (controlReg busy.sid.reg .i2) 1 = false := by
  decide

/-- A combined pulse one phase below its width, at its width, and below it with TEST set. -/
theorem test_witness_combined_pulse :
    let x : WaveIn := { topWave 5 false 0x800 with acc := 0x7FFFFFF, step := 0 }
    ((x.acc / 2 ^ 12 : Nat) : Int) < pulseWidth candidateParams x.pwreg x.step
      ∧ ¬((0x8000000 / 2 ^ 12 : Nat) : Int) < pulseWidth candidateParams x.pwreg x.step
      ∧ (x.wf = 5 ∧ (topWave 6 true 0).wf = 6 ∧ (topWave 7 true 0).wf = 7) ∧ x.test = false ∧ (topWave 6 true 0).test = true := by
  decide

/-- The bound t at 0 and at 0xFFFF, a width at t, one below it, and the register 0. -/
theorem test_witness_pulse_width :
    let big := 0xFFFF <<< 13
    (0xFFF ≤ 0xFFF ∧ big >>> candidateParams.pwMinShift ≤ 0xFFFF ∧ 0 >>> candidateParams.pwMinShift ≤ 0xFFFF)
      ∧ ((16 <<< 13) >>> candidateParams.pwMinShift ≤ 1 * 16 ∧ 1 * 16 + (16 <<< 13) >>> candidateParams.pwMinShift ≤ 0xFFFF)
      ∧ (1 * 16 < (17 <<< 13) >>> candidateParams.pwMinShift) ∧ 0x7FFF + 0x7FFF ≤ 0xFFFF
      ∧ (0xFFFF < max (0xFFF * 16) ((16 <<< 13) >>> candidateParams.pwMinShift) + (16 <<< 13) >>> candidateParams.pwMinShift)
      ∧ (0xFFFF < max (1 * 16) 0x8000 + 0x8000) := by
  decide

/-- A phase one below the width and at it; above the width, an end distance of 0 (the last phase, width 0) and one below. -/
theorem test_witness_trapezoid :
    ((0x0FFF : Nat) : Int) < 0x1000 ∧ (0x1000 : Int) ≤ (0x1000 : Nat)
      ∧ 0 ≤ (0xFFFF - ((0xFFFF : Nat) : Int)) * 0xFFFF - min (0 * 0xFFFF) 0xFFFF
      ∧ (0xFFFF - ((0xFFFF : Nat) : Int)) * 0xFFFF - min (1 * 0xFFFF) 0xFFFF < 0
      ∧ (topWave 4 false 0x800).wf = 4 ∧ (topWave 4 false 0x800).acc < 2 ^ 28 := by
  decide

/-- 3OFF set, and a voice routed and not routed. -/
theorem test_witness_routing :
    let m := writeBank (writeBank [] 0x17 0x04#8) 0x18 0x80#8
    (regNat m 0x18).testBit 7 = true ∧ (regNat m 0x17).testBit (num .i2) = true ∧ (regNat m 0x17).testBit (num .i1) = false
      ∧ (regNat ([] : Bank) 0x18).testBit 7 = false := by
  decide

/-- A render in range. -/
theorem test_witness_render_in_range :
    let r := renderVoices busy
    inInt32 (renderTaps r).bp = true ∧ inInt32 (renderTaps r).lp = true ∧ inInt32 (renderOut r) = true := by
  decide

/-- A lowpass value just above the range, and a voice routed so that the highpass tap is 0. -/
def lpState : State :=
  { withRegs [(0x17, 0x01#8)] (withVoice0 { Voice.reset 1 with env := 2 ^ 24 } State.reset) with
    sid := { (withRegs [(0x17, 0x01#8)] (withVoice0 { Voice.reset 1 with env := 2 ^ 24 } State.reset)).sid with pLP := 2 ^ 31 } }

/-- A voice so loud that the sample leaves the range. -/
def outState : State := withRegs [(0x18, 0x0F#8)] (withVoice0 { Voice.reset 1 with env := 2 ^ 40 } State.reset)

theorem test_witness_lp_fault :
    lpState.arrivals = [] ∧ inInt32 (renderTaps (renderVoices lpState)).bp = true
      ∧ inInt32 (renderTaps (renderVoices lpState)).lp = false ∧ goesOn (exec .sidRender lpState) = false := by
  decide

theorem test_witness_out_fault :
    outState.arrivals = [] ∧ inInt32 (renderTaps (renderVoices outState)).bp = true
      ∧ inInt32 (renderTaps (renderVoices outState)).lp = true ∧ inInt32 (renderOut (renderVoices outState)) = false := by
  decide

/-- A bandpass value just above the range, with the lowpass value that makes the highpass tap 0. -/
def bpState : State :=
  { State.reset with
    sid := { State.reset.sid with pBP := 2 ^ 31, pLP := -asr (timesEntry (2 ^ 31) (Config.resonance .mos8580 0)) 12 } }

theorem test_witness_bp_fault : bpState.arrivals = [] ∧ inInt32 (renderTaps (renderVoices bpState)).bp = false := by
  refine ⟨rfl, ?_⟩
  have h : (renderTaps (renderVoices bpState)).bp
      = 2 ^ 31 - asr (timesEntry (0 + asr (timesEntry (2 ^ 31) (Config.resonance .mos8580 0)) 12
        + -asr (timesEntry (2 ^ 31) (Config.resonance .mos8580 0)) 12) (Config.cutoffMul .mos8580 0)) 12 := rfl
  rw [h, Int.zero_add, Int.add_right_neg]
  decide

/-- A fault of SID_RENDER. -/
theorem test_witness_fault :
    exec .sidRender outState = .fault (.numericRange .out (storeTaps (renderTaps (renderVoices outState)) (renderVoices outState).st)) := by
  rfl

/-- No voice routed, no tap enabled, the volume at its top, and the filter quiet. -/
theorem test_witness_pass_through :
    busy.arrivals = [] ∧ ([0, 1, 2].all (fun k => (regNat busy.sid.reg 0x17).testBit k == false)) = true
      ∧ ([4, 5, 6].all (fun k => (regNat busy.sid.reg 0x18).testBit k == false)) = true
      ∧ busy.sid.pBP = 0 ∧ busy.sid.pLP = 0 ∧ TriAll WaveOk busy.sid.voices ∧ ChipOk busy.sid
      ∧ 1 ≤ divisor busy.params busy.sid.cfg :=
  ⟨rfl, by decide, by decide, rfl, rfl, ⟨by decide, by decide, by decide⟩, by decide, by decide⟩

/-- The latch at a tone divider and at the largest address that selects none. -/
theorem test_witness_latches :
    sn0.adr = 0 ∧ (snByte 0xA0 sn0).adr = 2 ∧ (snByte 0xC0 sn0).adr = 4
      ∧ ((snByte 0xF0 sn0).adr = 7 ∧ 7 ≠ 0 ∧ 7 ≠ 2 ∧ 7 ≠ 4) := by
  decide

/-- The largest byte, the first number that is none, and a byte written twice. -/
theorem test_witness_sn_bytes :
    goesOn (exec (.snWrite 0xFF) busy) = true ∧ refusal (exec (.snWrite 0x100) busy) = some .badOperand
      ∧ refusal (exec (.snWrite (-1)) busy) = some .badOperand ∧ (0xE0#8 : Byte).toNat / 16 = 0xE ∧ (0xEF#8 : Byte).toNat / 16 = 0xE
      ∧ refusal (exec (.snGgWrite 0x100) busy) = some .badOperand ∧ refusal (exec (.snSetMute 3 0) busy) = some .badOperand
      ∧ refusal (exec (.snSetMute 2 2) busy) = some .badOperand := by
  decide

/-- Dividers 0, 1, 2 and 1023, with the counter at 0. -/
theorem test_witness_dividers :
    sn0.tones.a0.freq ≤ 1 ∧ (snByte 0x81 sn0).tones.a0.freq ≤ 1
      ∧ (2 ≤ (snByte 0x82 sn0).tones.a0.freq ∧ (snByte 0x82 sn0).tones.a0.cnt = 0)
      ∧ ((snByte 0x3F (snByte 0x8F sn0)).tones.a0.freq = 1023) := by
  decide

/-- Noise rates 0 and 3, the counter one below the period and two below it. -/
theorem test_witness_noise_period :
    (sn0.noise.rate ≤ 3 ∧ sn0.noise.seed ≤ 0xFFFF ∧ noisePeriod { sn0 with noise := { sn0.noise with cnt := 31 } } ≤ 31 + 1)
      ∧ (30 + 1 < noisePeriod { sn0 with noise := { sn0.noise with cnt := 30 } })
      ∧ ((snByte 0xE7 sn0).noise.rate = 3 ∧ noisePeriod (snByte 0xE7 sn0) ≤ 0 + 1) := by
  decide

/-- Targets below, 2^k above, and 2^k - 1 above the output, for k = 1. -/
theorem test_witness_running_output :
    ((-1 : Int) < 0) ∧ ((0 : Int) + 2 ^ 1 ≤ 2) ∧ ((0 : Int) ≤ 1 ∧ (1 : Int) < 0 + 2 ^ 1) := by
  decide

/-- The masks 0xFF and 0x00. -/
theorem test_witness_masks : sn0.stereo = 0xFF#8 ∧ (setStereo 0x00#8 sn0).stereo = 0x00#8 := by decide

/-- Both rate modes; quality mode with the time below REALSTEP and at it. -/
theorem test_witness_rate_modes :
    let q : Sn := { sn0 with cfg := { sn0.cfg with quality := true } }
    sn0.cfg.quality = false ∧ q.cfg.quality = true ∧ 1 ≤ 2 ^ 31 / (q.cfg.clock / 16) ∧ q.stime < 2 ^ 31 / q.cfg.sampleRate
      ∧ 2 ^ 31 / q.cfg.sampleRate ≤ ({ q with stime := realStep q.cfg } : Sn).stime := by
  decide

/-- The smallest rates with the largest ratio and no attenuation, and a configuration SN_CREATE accepts. -/
theorem test_witness_creations :
    1 ≤ (State.reset.params.channelCount : Int) * 15 + (0 : Nat) ∧ goodSn.ok = true
      ∧ exec (.sidCreate 8580 ⟨1, 1, 4096, 0⟩) busy = .next (after (exec (.sidCreate 8580 ⟨1, 1, 4096, 0⟩) busy)) :=
  ⟨by decide, by decide, next_of_goesOn (by decide)⟩

/-- Operations on each chip that go on from a state with no arrivals. -/
theorem test_witness_isolation :
    busy.arrivals = [] ∧ [Instr.sidReset, .sidRender, .sidAdvance 9, .sidWrite 0x18 0xFF, .snReset, .snStep, .snData 0#1 1#6].all
      (fun i => goesOn (exec i busy)) = true := by
  decide

set_option maxRecDepth 8000 in
/-- A state in every range that is not the reset state, and its step. -/
theorem test_witness_invariant : Inv busy ∧ step busy = .next (after (step busy)) := by
  refine ⟨⟨by decide, ⟨by decide, ?_, ?_, ?_, by decide, by decide⟩, ⟨by decide, ?_, by decide, by decide, by decide, by decide⟩⟩,
    next_of_goesOn (by decide)⟩
  · exact ⟨by decide, by decide, by decide⟩
  · exact ⟨by decide, by decide, by decide⟩
  · exact ⟨by decide, by decide, by decide⟩
  · exact ⟨by decide, by decide, by decide⟩

end Sys2Proof.Tests
end

/-! PROOFS. The envelope's range (40 R133): no step of one voice takes its level above 255, and the host operations that
fall inside an advance leave the voices alone, so that SID_ADVANCE keeps every level in 0..255. -/

namespace Sys2Proof.Proofs

open Sys2Proof.Machine Sys2Proof.Claims Sys2Proof.Laws

-- ---- one voice

/-- An attack step saturates at 255, whatever the level was (40 R128). -/
theorem attackStep_env_le (V : Voice) : (attackStep V).env ≤ 255 := Nat.min_le_right _ _

/-- A decay, sustain or release step never raises the level (40 R129, R130). -/
theorem decayStep_env_le (sr : Nat) (V : Voice) : (decayStep sr V).env ≤ V.env := by
  unfold decayStep
  split
  · exact le_rfl
  · exact Nat.sub_le _ _

theorem envelopeStep_env_le (sr : Nat) {V : Voice} (h : V.env ≤ 255) : (envelopeStep sr V).env ≤ 255 := by
  unfold envelopeStep
  split
  · split
    · exact attackStep_env_le V
    · exact (decayStep_env_le sr V).trans h
  · exact h

theorem exponentStep_env_le (P : SidParams) (sr : Nat) {V : Voice} (h : V.env ≤ 255) :
    (exponentStep P sr V).env ≤ 255 := by
  have hstep : (envelopeStep sr { V with exp := 0 }).env ≤ 255 := envelopeStep_env_le sr h
  unfold exponentStep
  split
  · exact hstep
  · split
    · exact hstep
    · exact h

theorem rateStep_env_le (P : SidParams) (ad sr c : Nat) {V : Voice} (h : V.env ≤ 255) :
    (rateStep P ad sr c V).env ≤ 255 := by
  dsimp only [rateStep]
  split
  · exact exponentStep_env_le P sr h
  · exact h

/-- A gate edge changes the ADSR bits only (40 R121). -/
@[simp] theorem gateEdges_env (ctl : Nat) (V : Voice) : (gateEdges ctl V).env = V.env := by
  unfold gateEdges
  split
  · rfl
  · split <;> rfl

theorem advanceVoice_env_le (P : SidParams) (ctl ad sr c : Nat) {V : Voice} (h : V.env ≤ 255) :
    (advanceVoice P ctl ad sr c V).env ≤ 255 :=
  rateStep_env_le P ad sr c ((gateEdges_env ctl V).trans_le h)

-- ---- the voices of the machine

/-- The sub-step of voice `v` runs it on its own three bytes (20_memory R66 item 2). -/
theorem voice_advanceSub_same (v : Ix3) (c : Nat) (s : State) :
    voice (advanceSub v c s) v
      = advanceVoice s.params (controlReg s.sid.reg v) (adReg s.sid.reg v) (srReg s.sid.reg v) c (voice s v) :=
  triGet_triSet_same _ _ _

/-- The sub-step of voice `v` leaves the other voices alone. -/
theorem voice_advanceSub_ne {v w : Ix3} (h : w ≠ v) (c : Nat) (s : State) : voice (advanceSub v c s) w = voice s w :=
  triGet_triSet_ne _ _ _ _ h

/-- Host operations at an interleaving point write no voice (20_memory R66). -/
@[simp] theorem voice_hostPoint (s : State) (v : Ix3) : voice (hostPoint s) v = voice s v :=
  congrArg (triGet · v) (hostPoint_frame s).voices

/-- SID_ADVANCE goes on exactly for a natural count, with the three sub-steps in order (40 R120; 30_encoding R81). -/
theorem exec_sidAdvance_next_iff (c : Int) (s t : State) :
    exec (.sidAdvance c) s = .next t ↔ 0 ≤ c
      ∧ advanceSub .i2 c.toNat (hostPoint (advanceSub .i1 c.toNat (hostPoint (advanceSub .i0 c.toNat s)))) = t := by
  change execSidAdvance c s = .next t ↔ _
  unfold execSidAdvance refuse
  split
  · next hc => simp only [Host.Outcome.next.injEq, hc, true_and]
  · next hc => simp only [reduceCtorEq, hc, false_and]

-- ---- the range of every level

/-- Every voice's level is in range (10_state R25, 40 R133). -/
def EnvelopesInRange (s : State) : Prop := ∀ v, (voice s v).env ≤ 255

theorem EnvelopesInRange.advanceSub {s : State} (h : EnvelopesInRange s) (v : Ix3) (c : Nat) :
    EnvelopesInRange (advanceSub v c s) := by
  intro w
  by_cases hw : w = v
  · subst hw
    rw [voice_advanceSub_same]
    exact advanceVoice_env_le _ _ _ _ _ (h w)
  · rw [voice_advanceSub_ne hw]
    exact h w

theorem EnvelopesInRange.hostPoint {s : State} (h : EnvelopesInRange s) : EnvelopesInRange (hostPoint s) := by
  intro v
  rw [voice_hostPoint]
  exact h v

/-- Settles O23: the range is kept by each sub-step and by each interleaving point between two of them. -/
theorem envelopeStaysInRangeAfterAdvance : Obligations.EnvelopeStaysInRangeAfterAdvance := by
  unfold Obligations.EnvelopeStaysInRangeAfterAdvance
  intro s t c h hexec
  obtain ⟨-, rfl⟩ := (exec_sidAdvance_next_iff c s t).mp hexec
  have hs : EnvelopesInRange s := h
  have h0 := (hs.advanceSub .i0 c.toNat).hostPoint
  have h1 := (h0.advanceSub .i1 c.toNat).hostPoint
  exact h1.advanceSub .i2 c.toNat

end Sys2Proof.Proofs

/-! PROOFS. The phase accumulator (41 R153): when its update clears it, when it adds the step, and that a voice's render
keeps the accumulator its waveform was computed with. -/

namespace Sys2Proof.Proofs

open Sys2Proof.Machine

-- ---- the update

section
variable {acc step : Nat} {test sync rise : Bool}

/-- TEST, or SYNC with a risen MSB, clears the accumulator. -/
theorem nextAcc_of_clear (h : test = true ∨ (sync = true ∧ rise = true)) : nextAcc acc step test sync rise = 0 := by
  have hc : (test || (sync && rise)) = true := by simpa only [Bool.or_eq_true, Bool.and_eq_true] using h
  exact if_pos hc

/-- Otherwise the step is added, modulo 2^28. -/
theorem nextAcc_of_not_clear (h : ¬(test = true ∨ (sync = true ∧ rise = true))) :
    nextAcc acc step test sync rise = (acc + step) % 2 ^ 28 := by
  have hc : ¬(test || (sync && rise)) = true := by simpa only [Bool.or_eq_true, Bool.and_eq_true] using h
  exact if_neg hc

end

-- ---- one voice's render

section
variable (P : SidParams) (model : ChipModel) (ratio : Nat) (m : Bank) (v : Ix3) (V : Voice) (rise : Bool) (msb : Nat)

/-- The waveform's accumulator is the updated one, with the step the waveform's inputs carry (41 R150, R153). -/
theorem waveIn_acc :
    (waveIn model ratio m v V rise msb).acc
      = nextAcc V.acc (waveIn model ratio m v V rise msb).step (Machine.testBit (controlReg m v)) (syncBit (controlReg m v)) rise :=
  rfl

/-- The voice keeps the accumulator its waveform was computed with (41 R150). -/
theorem renderVoice_acc :
    (renderVoice P model ratio m v V rise msb).voice.acc = (waveIn model ratio m v V rise msb).acc :=
  rfl

end

/-- Settles O6: the render's accumulator is the waveform's, and the two cases are those of its update. -/
theorem accumulatorClearsOrAddsTheStep : Obligations.AccumulatorClearsOrAddsTheStep := by
  unfold Obligations.AccumulatorClearsOrAddsTheStep
  intro P model ratio m v V rise msb x ctl out
  have hupdate : out.acc = nextAcc V.acc x.step (Machine.testBit ctl) (syncBit ctl) rise :=
    (renderVoice_acc P model ratio m v V rise msb).trans (waveIn_acc model ratio m v V rise msb)
  refine ⟨fun hclear => ?_, fun hadd => ?_, ?_⟩
  · exact hupdate.trans (nextAcc_of_clear hclear)
  · exact hupdate.trans (nextAcc_of_not_clear hadd)
  · exact (renderVoice_acc P model ratio m v V rise msb).symm

end Sys2Proof.Proofs

/-! PROOFS. The encoding (30_encoding R80, R82 to R84, R110; the opcode table): the two shapes of a byte on the data port,
the offset of each register row, and that decoder, encoder and table agree. -/

namespace Sys2Proof.Proofs

open Sys2Proof.Claims Sys2Proof.Laws

-- ---- bytes on the data port

/-- A data byte `0xhhhhhh` (30_encoding R82). -/
def dataByte (x : BitVec 1) (h : BitVec 6) : Byte := 0#1 ++ x ++ h

/-- The row of a latch byte with address `aaa` and data `d` (30_encoding R83, R84). -/
def latchRow (aaa : BitVec 3) (d : Nibble) : Instr :=
  match aaa.toNat with
  | 0 => .snLatchTone0Freq d
  | 1 => .snLatchTone0Vol d
  | 2 => .snLatchTone1Freq d
  | 3 => .snLatchTone1Vol d
  | 4 => .snLatchTone2Freq d
  | 5 => .snLatchTone2Vol d
  | 6 => .snLatchNoiseCtrl (d.extractLsb' 3 1) (d.extractLsb' 2 1) (d.extractLsb' 0 2)
  | _ => .snLatchNoiseVol d

/-- Bit 7 tells a latch byte from a data byte, and each is put together from its fields (30_encoding R82). -/
theorem latchByte_or_dataByte (b : Byte) : (∃ aaa d, b = latchByte aaa d) ∨ ∃ x h, b = dataByte x h := by
  have hfields : ∀ b : Byte, b = latchByte (latchAddress b) (latchData b)
      ∨ b = dataByte (b.extractLsb' 6 1) (b.extractLsb' 0 6) := by decide
  rcases hfields b with h | h
  · exact .inl ⟨_, _, h⟩
  · exact .inr ⟨_, _, h⟩

theorem decodeSnBus_latchByte : ∀ (aaa : BitVec 3) (d : Nibble), decodeSnBus (latchByte aaa d) = latchRow aaa d := by
  decide

theorem decodeSnBus_dataByte : ∀ (x : BitVec 1) (h : BitVec 6), decodeSnBus (dataByte x h) = .snData x h := by
  decide

theorem encode_latchRow : ∀ (aaa : BitVec 3) (d : Nibble), encode (latchRow aaa d) = .snBus (latchByte aaa d) := by
  decide

/-- The three free fields of a noise-control byte are read back from its data bits (30_encoding R84). -/
theorem latchRow_noiseCtrl :
    ∀ (x m : BitVec 1) (rr : BitVec 2), latchRow 6#3 (x ++ m ++ rr) = .snLatchNoiseCtrl x m rr := by
  decide

theorem encode_decodeSnBus (b : Byte) : encode (decodeSnBus b) = .snBus b := by
  rcases latchByte_or_dataByte b with ⟨aaa, d, rfl⟩ | ⟨x, h, rfl⟩
  · rw [decodeSnBus_latchByte, encode_latchRow]
  · rw [decodeSnBus_dataByte]; rfl

-- ---- decode and encode

/-- Settles O1: records and register rows by computation, the data-port rows by the two shapes of a byte. -/
theorem decodeGivesBackEveryEncodedInstruction : Obligations.DecodeGivesBackEveryEncodedInstruction := by
  unfold Obligations.DecodeGivesBackEveryEncodedInstruction
  intro i
  cases i with
  | snLatchTone0Freq d => exact congrArg _ (decodeSnBus_latchByte 0#3 d)
  | snLatchTone0Vol d => exact congrArg _ (decodeSnBus_latchByte 1#3 d)
  | snLatchTone1Freq d => exact congrArg _ (decodeSnBus_latchByte 2#3 d)
  | snLatchTone1Vol d => exact congrArg _ (decodeSnBus_latchByte 3#3 d)
  | snLatchTone2Freq d => exact congrArg _ (decodeSnBus_latchByte 4#3 d)
  | snLatchTone2Vol d => exact congrArg _ (decodeSnBus_latchByte 5#3 d)
  | snLatchNoiseCtrl x m rr => exact congrArg _ ((decodeSnBus_latchByte 6#3 _).trans (latchRow_noiseCtrl x m rr))
  | snLatchNoiseVol d => exact congrArg _ (decodeSnBus_latchByte 7#3 d)
  | snData x h => exact congrArg _ (decodeSnBus_dataByte x h)
  | _ => rfl

/-- A record that has a meaning is the record of that meaning: no operand is dropped (30_encoding R110). -/
theorem encode_of_decodeRecord {op : HostOp} {l : List Int} {i : Instr} (h : decodeRecord op l = .ok i) :
    encode i = .record op l := by
  unfold decodeRecord at h
  split at h <;> cases h <;> rfl

theorem eq_ofNat_of_toNat_eq {a : Byte} {n : Nat} (h : a.toNat = n) : a = BitVec.ofNat 8 n := by
  subst h
  rw [BitVec.ofNat_toNat, BitVec.setWidth_eq]

/-- An offset that has a row is the offset of that row, and the data byte is kept. -/
theorem encode_of_decodeSidBus {a d : Byte} {i : Instr} (h : decodeSidBus a d = .ok i) : encode i = .sidBus a d := by
  unfold decodeSidBus at h
  split at h <;> cases h
  all_goals
    next ha =>
      rw [eq_ofNat_of_toNat_eq ha]
      rfl

/-- Settles O2, space by space. -/
theorem encodeGivesBackEveryDecodedCode : Obligations.EncodeGivesBackEveryDecodedCode := by
  unfold Obligations.EncodeGivesBackEveryDecodedCode
  intro c i h
  cases c with
  | record op l => exact encode_of_decodeRecord h
  | sidBus a d => exact encode_of_decodeSidBus h
  | snBus b =>
    injection h with h
    subst h
    exact encode_decodeSnBus b

-- ---- the opcode table

theorem SameRow.symm {i j : Instr} (h : SameRow i j) : SameRow j i := Eq.symm h

theorem SameRow.trans {i j k : Instr} (h : SameRow i j) (g : SameRow j k) : SameRow i k := Eq.trans h g

/-- A latch row's mask keeps bits 7..4, its pattern is the row's address there (30_encoding R82, R83). -/
theorem row_latchRow : ∀ (aaa : BitVec 3) (d : Nibble), (latchRow aaa d).row = some ⟨0xF0#8, 1#1 ++ aaa ++ 0#4⟩ := by
  decide

/-- A byte under a latch row's mask and pattern is a latch byte with the row's address. -/
theorem latchByte_of_hits {aaa : BitVec 3} {w : Byte} (h : Row.hits ⟨0xF0#8, 1#1 ++ aaa ++ 0#4⟩ w = true) :
    ∃ d, w = latchByte aaa d := by
  have hlatch : ∀ (aaa bbb : BitVec 3) (d : Nibble),
      Row.hits ⟨0xF0#8, 1#1 ++ aaa ++ 0#4⟩ (latchByte bbb d) = true → bbb = aaa := by decide
  have hdata : ∀ (aaa : BitVec 3) (x : BitVec 1) (h : BitVec 6),
      Row.hits ⟨0xF0#8, 1#1 ++ aaa ++ 0#4⟩ (dataByte x h) = false := by decide
  rcases latchByte_or_dataByte w with ⟨bbb, d, rfl⟩ | ⟨x, k, rfl⟩
  · exact ⟨d, by rw [hlatch aaa bbb d h]⟩
  · rw [hdata] at h; cases h

/-- A byte under the data row's mask and pattern is a data byte. -/
theorem dataByte_of_hits {w : Byte} (h : Row.hits ⟨0x80#8, 0x00#8⟩ w = true) : ∃ x k, w = dataByte x k := by
  have hlatch : ∀ (aaa : BitVec 3) (d : Nibble), Row.hits ⟨0x80#8, 0x00#8⟩ (latchByte aaa d) = false := by decide
  rcases latchByte_or_dataByte w with ⟨aaa, d, rfl⟩ | hd
  · rw [hlatch] at h; cases h
  · exact hd

/-- A latch byte decodes to its row's constructor, whatever its data bits. -/
theorem sameRow_of_latch_hits {aaa : BitVec 3} {w : Byte} (h : Row.hits ⟨0xF0#8, 1#1 ++ aaa ++ 0#4⟩ w = true)
    (e : Nibble) : SameRow (decodeSnBus w) (latchRow aaa e) := by
  have hrow : ∀ (aaa : BitVec 3) (d e : Nibble), SameRow (latchRow aaa d) (latchRow aaa e) := by
    unfold SameRow; decide
  obtain ⟨d, rfl⟩ := latchByte_of_hits h
  rw [decodeSnBus_latchByte]
  exact hrow aaa d e

/-- A row of the table is a register row at its offset, a latch row, or the data row. -/
theorem row_cases {i : Instr} {r : Row} (h : i.row = some r) :
    (∃ a d, r = ⟨0x1F#8, a⟩ ∧ encode i = .sidBus a d)
      ∨ (∃ aaa d, r = ⟨0xF0#8, 1#1 ++ aaa ++ 0#4⟩ ∧ SameRow (latchRow aaa d) i)
      ∨ (∃ x k, r = ⟨0x80#8, 0x00#8⟩ ∧ i = .snData x k) := by
  cases i <;> cases h
  case snLatchTone0Freq d => exact .inr (.inl ⟨0#3, d, rfl, rfl⟩)
  case snLatchTone0Vol d => exact .inr (.inl ⟨1#3, d, rfl, rfl⟩)
  case snLatchTone1Freq d => exact .inr (.inl ⟨2#3, d, rfl, rfl⟩)
  case snLatchTone1Vol d => exact .inr (.inl ⟨3#3, d, rfl, rfl⟩)
  case snLatchTone2Freq d => exact .inr (.inl ⟨4#3, d, rfl, rfl⟩)
  case snLatchTone2Vol d => exact .inr (.inl ⟨5#3, d, rfl, rfl⟩)
  case snLatchNoiseCtrl x m rr => exact .inr (.inl ⟨6#3, 0#4, rfl, rfl⟩)
  case snLatchNoiseVol d => exact .inr (.inl ⟨7#3, d, rfl, rfl⟩)
  case snData x k => exact .inr (.inr ⟨x, k, rfl, rfl⟩)
  all_goals exact .inl ⟨_, _, rfl, rfl⟩

/-- On the data port a byte that matches a row decodes to the row's constructor. -/
theorem sameRow_decodeSnBus {i : Instr} {r : Row} {w : Byte} (hrow : i.row = some r) (hhit : r.hits w = true)
    (hmask : r.mask ≠ 0x1F#8) : SameRow (decodeSnBus w) i := by
  rcases row_cases hrow with ⟨a, d, rfl, -⟩ | ⟨aaa, d, rfl, hi⟩ | ⟨x, k, rfl, rfl⟩
  · exact absurd rfl hmask
  · exact (sameRow_of_latch_hits hhit d).trans hi
  · obtain ⟨y, h, rfl⟩ := dataByte_of_hits hhit
    rw [decodeSnBus_dataByte]
    rfl

/-- The constructor at an offset does not depend on the data byte. -/
theorem decodeSidBus_sameRow {a d : Byte} {i : Instr} (h : decodeSidBus a d = .ok i) (e : Byte) :
    ∃ j, decodeSidBus a e = .ok j ∧ SameRow j i := by
  unfold decodeSidBus at h ⊢
  split at h <;> cases h
  all_goals exact ⟨_, rfl, rfl⟩

/-- A register row's pattern is its offset, and decodes to its constructor. -/
theorem sameRow_decodeSidBus_pattern {i : Instr} {r : Row} (hrow : i.row = some r) (hmask : r.mask = 0x1F#8) (d : Byte) :
    ∃ j, decodeSidBus r.pattern d = .ok j ∧ SameRow j i := by
  rcases row_cases hrow with ⟨a, e, rfl, hi⟩ | ⟨aaa, e, rfl, -⟩ | ⟨x, k, rfl, -⟩
  · have hdec : decode (encode i) = .ok i := decodeGivesBackEveryEncodedInstruction i
    rw [hi] at hdec
    exact decodeSidBus_sameRow hdec d
  · exact absurd hmask (by simp)
  · exact absurd hmask (by simp)

/-- Under the offset mask, an offset of the bank is the pattern it matches. -/
theorem eq_pattern_of_hits {r : Row} {w : Byte} (hmask : r.mask = 0x1F#8) (hhit : r.hits w = true)
    (hw : w.toNat ≤ 0x1C) : w = r.pattern := by
  have hkeep : ∀ w : Byte, w.toNat ≤ 0x1C → w &&& 0x1F#8 = w := by decide
  have h : w &&& r.mask = r.pattern := eq_of_beq hhit
  rwa [hmask, hkeep w hw] at h

/-- Settles O3: a byte decodes to the constructor of every row it matches, on the space of that row. -/
theorem opcodeRowsDoNotOverlap : Obligations.OpcodeRowsDoNotOverlap := by
  unfold Obligations.OpcodeRowsDoNotOverlap
  refine ⟨fun i j r q w hi hj hmask hr hq => ?_, fun i r w hi hr => ⟨sameRow_decodeSnBus hi hr, ?_⟩, fun w => ?_⟩
  · by_cases hm : r.mask = 0x1F#8
    · have hpat : r.pattern = q.pattern := by
        rw [← eq_of_beq hr, ← eq_of_beq hq, hm, hmask.mp hm]
      obtain ⟨k, hk, hki⟩ := sameRow_decodeSidBus_pattern hi hm 0#8
      obtain ⟨l, hl, hlj⟩ := sameRow_decodeSidBus_pattern hj (hmask.mp hm) 0#8
      rw [hpat, hl] at hk
      cases hk
      exact hki.symm.trans hlj
    · exact (sameRow_decodeSnBus hi hr hm).symm.trans (sameRow_decodeSnBus hj hq (mt hmask.mpr hm))
  · intro hm hw d
    rw [eq_pattern_of_hits hm hr hw]
    exact sameRow_decodeSidBus_pattern hi hm d
  · rcases latchByte_or_dataByte w with ⟨aaa, d, rfl⟩ | ⟨x, h, rfl⟩
    · rw [decodeSnBus_latchByte]
      exact ⟨_, row_latchRow aaa d, by simp, latch_byte_hits aaa d⟩
    · rw [decodeSnBus_dataByte]
      exact ⟨_, rfl, by simp, data_byte_hits x h⟩

/-- Settles O4: each word is written out. -/
theorem specWordsDecodeAsWritten : Obligations.SpecWordsDecodeAsWritten := by
  unfold Obligations.SpecWordsDecodeAsWritten
  decide

end Sys2Proof.Proofs

/-! PROOFS. What each instruction does, said once: a host operation with operands goes on exactly when its operands are
accepted, every other row of the opcode table is one store or one byte on the data port. The statements about refusals, the
fault and single operations follow. -/

namespace Sys2Proof.Proofs

open Sys2Proof.Machine Sys2Proof.Claims Sys2Proof.Laws

-- ---- bytes and bits

/-- The low bits of a number (00_scope R11). -/
theorem slice_zero (x n : Nat) : slice x n 0 = x % 2 ^ (n + 1) := by
  simp only [slice, Nat.pow_zero, Nat.div_one, Nat.sub_zero]

theorem regNat_lt (m : Bank) (a : Nat) : regNat m a < 256 := (readBank m a).isLt

theorem latchByte_fields : ∀ (aaa : BitVec 3) (d : Nibble), bit (latchByte aaa d).toNat 7 = true
    ∧ slice (latchByte aaa d).toNat 6 4 = aaa.toNat ∧ slice (latchByte aaa d).toNat 3 0 = d.toNat := by
  decide

theorem dataByte_fields : ∀ (x : BitVec 1) (h : BitVec 6), bit (dataByte x h).toNat 7 = false
    ∧ slice (dataByte x h).toNat 5 0 = h.toNat := by
  decide

theorem snByte_latchByte (aaa : BitVec 3) (d : Nibble) (g : Sn) :
    snByte (latchByte aaa d).toNat g = latchWrite aaa.toNat d.toNat g := by
  obtain ⟨hlatch, haddr, hdata⟩ := latchByte_fields aaa d
  unfold snByte
  rw [if_pos hlatch, haddr, hdata]

theorem snByte_dataByte (x : BitVec 1) (h : BitVec 6) (g : Sn) : snByte (dataByte x h).toNat g = dataWrite h.toNat g := by
  obtain ⟨hdata, hbits⟩ := dataByte_fields x h
  unfold snByte
  rw [if_neg (by rw [hdata]; exact Bool.false_ne_true), hbits]

/-- Address 6 is noise control, with the mode in bit 2 and the rate in bits 1..0 (43 R245). -/
theorem latchWrite_noiseCtrl (x m : BitVec 1) (rr : BitVec 2) (g : Sn) :
    latchWrite 6 (x ++ m ++ rr).toNat g = setNoiseControl (decide (m = 1#1)) rr.toNat (latch 6 g) := by
  have hfields : ∀ (x m : BitVec 1) (rr : BitVec 2), bit (x ++ m ++ rr).toNat 2 = decide (m = 1#1)
      ∧ slice (x ++ m ++ rr).toNat 1 0 = rr.toNat := by decide
  obtain ⟨hmode, hrate⟩ := hfields x m rr
  change setNoiseControl (bit (x ++ m ++ rr).toNat 2) (slice (x ++ m ++ rr).toNat 1 0) (latch 6 g) = _
  rw [hmode, hrate]

-- ---- the rows of the opcode table

/-- `i` is the register row of offset `a`: it stores `d` there (opcode table, 20_memory R62). -/
structure IsSidRow (i : Instr) (a d : Byte) : Prop where
  code : encode i = .sidBus a d
  offset_lt : a.toNat < 29
  wellFormed : i.wellFormed = true
  exec_eq : ∀ s, exec i s = .next (storeReg a.toNat d s)

/-- `i` is the row of byte `b` on the data port: it performs that byte (opcode table, 43 R240). -/
structure IsSnRow (i : Instr) (b : Byte) : Prop where
  code : encode i = .snBus b
  wellFormed : i.wellFormed = true
  exec_eq : ∀ s, exec i s = .next (onSn (snByte b.toNat) s)

/-- A latch row performs its byte when it does what the latch write of its address does. -/
theorem isSnRow_latch {i : Instr} {aaa : BitVec 3} {d : Nibble} (hcode : encode i = .snBus (latchByte aaa d))
    (hwf : i.wellFormed = true) (hexec : ∀ s, exec i s = .next (onSn (latchWrite aaa.toNat d.toNat) s)) :
    IsSnRow i (latchByte aaa d) :=
  ⟨hcode, hwf, fun s => (hexec s).trans (congrArg (fun f => Host.Outcome.next (onSn f s))
    (funext fun g => (snByte_latchByte aaa d g).symm))⟩

/-- Every instruction is one of the 13 host operations, a register row or a data-port row. -/
theorem instr_cases {motive : Instr → Prop}
    (sidCreate : ∀ m ctx, motive (.sidCreate m ctx)) (sidReset : motive .sidReset)
    (sidWrite : ∀ a d, motive (.sidWrite a d)) (sidRead : ∀ a, motive (.sidRead a))
    (sidAdvance : ∀ c, motive (.sidAdvance c)) (sidRender : motive .sidRender)
    (snCreate : ∀ cfg, motive (.snCreate cfg)) (snReset : motive .snReset) (snWrite : ∀ b, motive (.snWrite b))
    (snGgWrite : ∀ b, motive (.snGgWrite b)) (snSetMute : ∀ k f, motive (.snSetMute k f)) (snStep : motive .snStep)
    (snStepStereo : motive .snStepStereo) (sidRow : ∀ j a d, IsSidRow j a d → motive j)
    (snRow : ∀ j b, IsSnRow j b → motive j) (i : Instr) : motive i := by
  cases i
  case sidCreate m ctx => exact sidCreate m ctx
  case sidReset => exact sidReset
  case sidWrite a d => exact sidWrite a d
  case sidRead a => exact sidRead a
  case sidAdvance c => exact sidAdvance c
  case sidRender => exact sidRender
  case snCreate cfg => exact snCreate cfg
  case snReset => exact snReset
  case snWrite b => exact snWrite b
  case snGgWrite b => exact snGgWrite b
  case snSetMute k f => exact snSetMute k f
  case snStep => exact snStep
  case snStepStereo => exact snStepStereo
  case snLatchTone0Freq d => exact snRow _ _ (isSnRow_latch (aaa := 0#3) (d := d) rfl rfl fun _ => rfl)
  case snLatchTone0Vol d => exact snRow _ _ (isSnRow_latch (aaa := 1#3) (d := d) rfl rfl fun _ => rfl)
  case snLatchTone1Freq d => exact snRow _ _ (isSnRow_latch (aaa := 2#3) (d := d) rfl rfl fun _ => rfl)
  case snLatchTone1Vol d => exact snRow _ _ (isSnRow_latch (aaa := 3#3) (d := d) rfl rfl fun _ => rfl)
  case snLatchTone2Freq d => exact snRow _ _ (isSnRow_latch (aaa := 4#3) (d := d) rfl rfl fun _ => rfl)
  case snLatchTone2Vol d => exact snRow _ _ (isSnRow_latch (aaa := 5#3) (d := d) rfl rfl fun _ => rfl)
  case snLatchNoiseVol d => exact snRow _ _ (isSnRow_latch (aaa := 7#3) (d := d) rfl rfl fun _ => rfl)
  case snLatchNoiseCtrl x m rr =>
    exact snRow _ _ (isSnRow_latch (aaa := 6#3) (d := x ++ m ++ rr) rfl rfl fun s =>
      congrArg (fun f => Host.Outcome.next (onSn f s)) (funext fun g => (latchWrite_noiseCtrl x m rr g).symm))
  case snData x h =>
    exact snRow _ (dataByte x h) ⟨rfl, rfl, fun s =>
      congrArg (fun f => Host.Outcome.next (onSn f s)) (funext fun g => (snByte_dataByte x h g).symm)⟩
  all_goals exact sidRow _ _ _ ⟨rfl, by decide, rfl, fun _ => rfl⟩

-- ---- operations that check their operands

/-- An operation that goes on to `t` where its check `ok` holds and is refused with `q` otherwise. -/
def guarded (ok : Bool) (t : State) (q : Refusal) : Res := if ok = true then .next t else .refused q

section
variable {ok : Bool} {t u : State} {q r : Refusal} {f : Fault}

theorem guarded_of_ok (h : ok = true) : guarded ok t q = .next t := if_pos h

theorem guarded_of_not_ok (h : ok = false) : guarded ok t q = .refused q := if_neg (by rw [h]; exact Bool.false_ne_true)

theorem guarded_eq_next_iff : guarded ok t q = .next u ↔ ok = true ∧ u = t := by
  cases ok
  · simp [guarded]
  · simp [guarded, eq_comm]

theorem guarded_eq_refused_iff : guarded ok t q = .refused r ↔ ok = false ∧ r = q := by
  cases ok
  · simp [guarded, eq_comm]
  · simp [guarded]

theorem guarded_ne_fault : guarded ok t q ≠ .fault f := by
  cases ok <;> simp [guarded]

end

section
variable {i : Instr} {s : State} {ok : Bool} {t u : State} {q r : Refusal} {f : Fault}

theorem next_of_guarded (he : exec i s = guarded ok t q) (h : exec i s = .next u) : ok = true ∧ u = t :=
  guarded_eq_next_iff.mp (he.symm.trans h)

theorem not_fault_of_guarded (he : exec i s = guarded ok t q) (h : exec i s = .fault f) : False :=
  guarded_ne_fault (he.symm.trans h)

/-- An operation that checks its well-formedness alone is refused exactly without it. -/
theorem refused_iff_of_guarded (hne : ∀ m ctx, i ≠ .sidCreate m ctx) (he : exec i s = guarded i.wellFormed t (causeOf i)) :
    exec i s = .refused r ↔ (i.wellFormed = false
      ∨ ∃ m ctx, i = .sidCreate m ctx ∧ (s.params.channelCount : Int) * 15 + ctx.attenuation < 1) ∧ r = causeOf i := by
  rw [he, guarded_eq_refused_iff]
  simp only [hne, false_and, exists_false, or_false]

/-- A well-formed operation without a check is not refused. -/
theorem refused_iff_of_unrefused (hne : ∀ m ctx, i ≠ .sidCreate m ctx) (hwf : i.wellFormed = true)
    (he : exec i s ≠ .refused r) :
    exec i s = .refused r ↔ (i.wellFormed = false
      ∨ ∃ m ctx, i = .sidCreate m ctx ∧ (s.params.channelCount : Int) * 15 + ctx.attenuation < 1) ∧ r = causeOf i := by
  simp only [he, hne, hwf, Bool.true_eq_false, false_and, exists_false, or_self]

end

theorem inRange_eq (hi x : Int) : inRange hi x = decide (0 ≤ x ∧ x ≤ hi) := rfl

theorem exec_sidWrite (a d : Int) (s : State) : exec (.sidWrite a d) s
    = guarded (Instr.sidWrite a d).wellFormed (storeReg a.toNat (BitVec.ofInt 8 d) s) .badOperand := rfl

theorem exec_sidRead (a : Int) (s : State) : exec (.sidRead a) s
    = guarded (Instr.sidRead a).wellFormed (returnByte (readReg s a.toNat) s) .badOperand := rfl

/-- The three voice sub-steps of SID_ADVANCE, with HOST_W between them (40 R120, 20_memory R66). -/
def advanceAll (c : Nat) (s : State) : State :=
  advanceSub .i2 c (hostPoint (advanceSub .i1 c (hostPoint (advanceSub .i0 c s))))

theorem exec_sidAdvance (c : Int) (s : State) : exec (.sidAdvance c) s
    = guarded (Instr.sidAdvance c).wellFormed (advanceAll c.toNat s) .badOperand := by
  simp only [guarded, Instr.wellFormed, decide_eq_true_eq]
  rfl

theorem exec_snWrite (b : Int) (s : State) : exec (.snWrite b) s
    = guarded (Instr.snWrite b).wellFormed (onSn (snByte b.toNat) s) .badOperand := rfl

theorem exec_snGgWrite (b : Int) (s : State) : exec (.snGgWrite b) s
    = guarded (Instr.snGgWrite b).wellFormed (onSn (setStereo (BitVec.ofInt 8 b)) s) .badOperand := rfl

theorem exec_snSetMute (i f : Int) (s : State) : exec (.snSetMute i f) s
    = guarded (Instr.snSetMute i f).wellFormed (onSn (setMute (toneIndex i) (decide (f = 1))) s) .badOperand := rfl

/-- The checks of SN_CREATE are those of its well-formedness (70 R322, 10_state R39). -/
theorem snArgsOk_eq (c : SnArgs) : snArgsOk c = c.ok := by
  have hquality : 0 ≤ c.quality ∧ c.quality ≤ 1 ↔ c.quality = 0 ∨ c.quality = 1 := by omega
  rw [Bool.eq_iff_iff]
  simp only [snArgsOk, SnArgs.ok, inRange_eq, hquality, Bool.and_eq_true, Bool.or_eq_true, decide_eq_true_eq]
  tauto

theorem exec_snCreate (cfg : SnArgs) (s : State) : exec (.snCreate cfg) s
    = guarded (Instr.snCreate cfg).wellFormed { s with sn := Sn.created (snConfigOf cfg) } .badConfig := by
  simp only [guarded, Instr.wellFormed, ← snArgsOk_eq]
  rfl

/-- SID_CREATE's checks: its well-formedness and the output divisor (70 R320). -/
def createOk (P : SidParams) (m : Int) (ctx : HostContext) : Bool :=
  (Instr.sidCreate m ctx).wellFormed && decide (1 ≤ (P.channelCount : Int) * 15 + ctx.attenuation)

theorem contextOk_eq (P : SidParams) (ctx : HostContext) :
    contextOk P ctx = (ctx.ok && decide (1 ≤ (P.channelCount : Int) * 15 + ctx.attenuation)) := by
  rw [Bool.eq_iff_iff]
  simp only [contextOk, HostContext.ok, Bool.and_eq_true, decide_eq_true_eq]
  tauto

/-- SID_CREATE's new chip model; the checks leave no other operand. -/
def createdModel (m : Int) : ChipModel := (modelOf m).getD .mos8580

theorem exec_sidCreate (m : Int) (ctx : HostContext) (s : State) : exec (.sidCreate m ctx) s
    = guarded (createOk s.params m ctx)
      { s with sid := Sid.created s.params.noiseSeed (sidConfigOf (createdModel m) ctx) } .badConfig := by
  change execSidCreate m ctx s = _
  unfold execSidCreate
  by_cases h65 : m = 6581
  · subst h65
    simp only [guarded, createOk, Instr.wellFormed, contextOk_eq]
    rfl
  · by_cases h85 : m = 8580
    · subst h85
      simp only [guarded, createOk, Instr.wellFormed, contextOk_eq]
      rfl
    · simp [guarded, createOk, Instr.wellFormed, modelOf, refuse, h65, h85]

theorem createOk_eq_false_iff (P : SidParams) (m : Int) (ctx : HostContext) : createOk P m ctx = false ↔
    (Instr.sidCreate m ctx).wellFormed = false ∨ (P.channelCount : Int) * 15 + ctx.attenuation < 1 := by
  unfold createOk
  rw [Bool.and_eq_false_iff, decide_eq_false_iff_not, not_le]

-- ---- refusals and the fault

/-- A render is not refused. -/
theorem exec_sidRender_ne_refused (s : State) (r : Refusal) : exec .sidRender s ≠ .refused r := by
  change filterSub (renderVoices s) ≠ .refused r
  rcases filterSub_cases (renderVoices s) with ⟨-, h⟩ | ⟨-, -, h⟩ | ⟨-, -, -, h⟩ | ⟨-, -, -, h⟩ <;> simp [h]

/-- A refusal is that of an ill-formed operation, or of a creation whose output divisor is below 1. -/
theorem exec_refused_iff (i : Instr) (s : State) (r : Refusal) : exec i s = .refused r ↔
    (i.wellFormed = false ∨ ∃ m ctx, i = .sidCreate m ctx ∧ (s.params.channelCount : Int) * 15 + ctx.attenuation < 1)
      ∧ r = causeOf i := by
  induction i using instr_cases with
  | sidCreate m ctx =>
    rw [exec_sidCreate, guarded_eq_refused_iff, createOk_eq_false_iff]
    refine and_congr_left' (or_congr_right ⟨fun h => ⟨m, ctx, rfl, h⟩, ?_⟩)
    rintro ⟨_, _, h, hdiv⟩
    cases h
    exact hdiv
  | sidWrite a d => exact refused_iff_of_guarded nofun (exec_sidWrite a d s)
  | sidRead a => exact refused_iff_of_guarded nofun (exec_sidRead a s)
  | sidAdvance c => exact refused_iff_of_guarded nofun (exec_sidAdvance c s)
  | snCreate cfg => exact refused_iff_of_guarded nofun (exec_snCreate cfg s)
  | snWrite b => exact refused_iff_of_guarded nofun (exec_snWrite b s)
  | snGgWrite b => exact refused_iff_of_guarded nofun (exec_snGgWrite b s)
  | snSetMute k f => exact refused_iff_of_guarded nofun (exec_snSetMute k f s)
  | sidRender => exact refused_iff_of_unrefused nofun rfl (exec_sidRender_ne_refused s r)
  | sidReset => exact refused_iff_of_unrefused nofun rfl nofun
  | snReset => exact refused_iff_of_unrefused nofun rfl nofun
  | snStep => exact refused_iff_of_unrefused nofun rfl nofun
  | snStepStereo => exact refused_iff_of_unrefused nofun rfl nofun
  | sidRow j a d hj =>
    have hne : ∀ m ctx, j ≠ .sidCreate m ctx := by rintro m ctx rfl; cases hj.code
    exact refused_iff_of_unrefused hne hj.wellFormed (by rw [hj.exec_eq]; nofun)
  | snRow j b hj =>
    have hne : ∀ m ctx, j ≠ .sidCreate m ctx := by rintro m ctx rfl; cases hj.code
    exact refused_iff_of_unrefused hne hj.wellFormed (by rw [hj.exec_eq]; nofun)

/-- Settles O7. -/
theorem refusedExactlyWhenIllFormed : Obligations.RefusedExactlyWhenIllFormed := by
  unfold Obligations.RefusedExactlyWhenIllFormed
  exact ⟨exec_refused_iff, rfl, rfl⟩

/-- Settles O8: every other operation is guarded, or goes on without a check. -/
theorem onlyRenderFaults : Obligations.OnlyRenderFaults := by
  unfold Obligations.OnlyRenderFaults
  intro i s f h
  refine ⟨?_, rfl⟩
  induction i using instr_cases with
  | sidRender => rfl
  | sidCreate m ctx => exact (not_fault_of_guarded (exec_sidCreate m ctx s) h).elim
  | sidWrite a d => exact (not_fault_of_guarded (exec_sidWrite a d s) h).elim
  | sidRead a => exact (not_fault_of_guarded (exec_sidRead a s) h).elim
  | sidAdvance c => exact (not_fault_of_guarded (exec_sidAdvance c s) h).elim
  | snCreate cfg => exact (not_fault_of_guarded (exec_snCreate cfg s) h).elim
  | snWrite b => exact (not_fault_of_guarded (exec_snWrite b s) h).elim
  | snGgWrite b => exact (not_fault_of_guarded (exec_snGgWrite b s) h).elim
  | snSetMute k e => exact (not_fault_of_guarded (exec_snSetMute k e s) h).elim
  | sidReset => cases h
  | snReset => cases h
  | snStep => cases h
  | snStepStereo => cases h
  | sidRow j a d hj => rw [hj.exec_eq] at h; cases h
  | snRow j b hj => rw [hj.exec_eq] at h; cases h

/-- Settles O5, by the three things a step can do. -/
theorem stepRunsTheDecodedInstruction : Obligations.StepRunsTheDecodedInstruction := by
  unfold Obligations.StepRunsTheDecodedInstruction
  refine ⟨fun s c rest hq => ?_, fun _ => rfl, fun _ => rfl, fun s hq => ?_⟩
  · rcases step_cases s with ⟨h, -⟩ | ⟨_, _, e, h, hdec, hstep⟩ | ⟨_, _, i, h, hdec, hstep⟩
    · rw [hq] at h; cases h
    · rw [hq] at h
      cases h
      refine ⟨fun i hi => ?_, fun e' he => ?_⟩
      · rw [hdec] at hi; cases hi
      · rw [hdec] at he; cases he; exact hstep
    · rw [hq] at h
      cases h
      refine ⟨fun j hj => ?_, fun e he => ?_⟩
      · rw [hdec] at hj; cases hj; exact hstep
      · rw [hdec] at he; cases he
  · rcases step_cases s with ⟨-, hstep⟩ | ⟨_, _, _, h, -⟩ | ⟨_, _, _, h, -⟩
    · exact hstep
    · rw [hq] at h; cases h
    · rw [hq] at h; cases h

-- ---- the register bank

theorem storesByte_of_exec {i : Instr} {s : State} {a : Nat} {d : Byte} (hwf : bankWf s.sid.reg = true)
    (h : exec i s = .next (storeReg a d s)) : StoresByte i s a d :=
  ⟨_, h, readReg_storeReg_same s a d hwf, fun x hx => readReg_storeReg_ne s a x d hx, rfl⟩

/-- Settles O9. -/
theorem sidWriteStoresOneByte : Obligations.SidWriteStoresOneByte := by
  unfold Obligations.SidWriteStoresOneByte
  intro s a d hwf
  rw [exec_sidWrite]
  refine ⟨fun ⟨ha, hd⟩ => storesByte_of_exec hwf ?_, fun h => guarded_of_not_ok ?_⟩
  · have hok : (Instr.sidWrite a d).wellFormed = true := by
      simp only [Instr.wellFormed, Bool.and_eq_true, decide_eq_true_eq]; omega
    rw [exec_sidWrite, guarded_of_ok hok, BitVec.ofInt_natCast]
    rfl
  · simp only [Instr.wellFormed, Bool.and_eq_false_iff, decide_eq_false_iff_not]; omega

/-- Settles O10: each row is the store at its offset. -/
theorem registerRowsStoreAtTheirOffset : Obligations.RegisterRowsStoreAtTheirOffset := by
  unfold Obligations.RegisterRowsStoreAtTheirOffset
  intro s d hwf
  and_intros <;> exact storesByte_of_exec hwf rfl

/-- Settles O11. -/
theorem sidReadReturnsTheByte : Obligations.SidReadReturnsTheByte := by
  unfold Obligations.SidReadReturnsTheByte
  intro s a
  rw [exec_sidRead]
  refine ⟨fun ha => guarded_of_ok ?_, fun ha => guarded_of_not_ok ?_⟩
  · simp only [Instr.wellFormed, decide_eq_true_eq]; omega
  · simp only [Instr.wellFormed, decide_eq_false_iff_not]; omega

/-- PW_HI is read in bits 3..0 only (10_state R46). -/
theorem and_low4_mod (d : Byte) : (d &&& 0x0F#8).toNat % 16 = d.toNat % 16 := by
  revert d; decide

/-- FC_LO is read in bits 2..0 only (10_state R50). -/
theorem and_low3_mod (d : Byte) : (d &&& 0x07#8).toNat % 8 = d.toNat % 8 := by
  revert d; decide

theorem regNat_writeBank_same {m : Bank} (h : bankWf m = true) (a : Nat) (d : Byte) :
    regNat (writeBank m a d) a = d.toNat :=
  congrArg BitVec.toNat (readBank_writeBank_same m a d 0 h)

theorem regNat_writeBank_ne (m : Bank) {a x : Nat} (d : Byte) (h : x ≠ a) :
    regNat (writeBank m a d) x = regNat m x :=
  congrArg BitVec.toNat (readBank_writeBank_ne m a x d h)

theorem pwReg_eq (m : Bank) (v : Ix3) :
    pwReg m v = regNat m (7 * num v + 3) % 16 * 256 + regNat m (7 * num v + 2) := by
  simp only [pwReg, voiceBase, slice_zero, Nat.reduceAdd, Nat.reducePow]

theorem cutoff_eq (m : Bank) : cutoff m = regNat m 0x16 * 8 + regNat m 0x15 % 8 := by
  simp only [cutoff, slice_zero, Nat.reduceAdd, Nat.reducePow]

/-- Settles O12: both fields are read modulo 16 and 8 from the byte with the unused bits. -/
theorem pulseWidthAndCutoffFieldsIgnoreUnusedBits : Obligations.PulseWidthAndCutoffFieldsIgnoreUnusedBits := by
  unfold Obligations.PulseWidthAndCutoffFieldsIgnoreUnusedBits
  intro m v d hwf
  have hlo := regNat_lt m (7 * num v + 2)
  have hfc := regNat_lt m 0x16
  have hne : 7 * num v + 2 ≠ 7 * num v + 3 := by omega
  refine ⟨pwReg_eq m v, by rw [pwReg_eq]; omega, cutoff_eq m, by rw [cutoff_eq]; omega, ?_,
    readBank_writeBank_same m _ d 0 hwf, ?_, readBank_writeBank_same m _ d 0 hwf⟩
  · rw [pwReg_eq, pwReg_eq, regNat_writeBank_same hwf, regNat_writeBank_same hwf, regNat_writeBank_ne m d hne,
      regNat_writeBank_ne m _ hne, and_low4_mod]
  · rw [cutoff_eq, cutoff_eq, regNat_writeBank_same hwf, regNat_writeBank_same hwf, regNat_writeBank_ne m d (by decide),
      regNat_writeBank_ne m _ (by decide), and_low3_mod]

end Sys2Proof.Proofs

/-! PROOFS. SID_ADVANCE and the ADSR state machine (40 R120 to R135): one lemma per branch of each rule, what an advance of
zero cycles does, the count of period matches in Attack, and the ranges of the envelope fields. -/

namespace Sys2Proof.Proofs

open Sys2Proof.Machine Sys2Proof.Claims Sys2Proof.Laws

-- ---- gate edges (40 R121)

section
variable {ctl : Nat} {V : Voice}

theorem gateEdges_falling (hgate : V.gate = true) (hbit : gateBit ctl = false) :
    gateEdges ctl V = { V with gate := false, atk := false, ds := false } :=
  if_pos ⟨hgate, hbit⟩

theorem gateEdges_rising (hgate : V.gate = false) (hbit : gateBit ctl = true) :
    gateEdges ctl V = { V with gate := true, atk := true, ds := true, holdn := true } := by
  simp only [gateEdges, hgate, hbit, reduceCtorEq, and_self, if_true, if_false]

theorem gateEdges_none (h : V.gate = gateBit ctl) : gateEdges ctl V = V := by
  unfold gateEdges
  cases hbit : gateBit ctl <;> simp [h, hbit]

theorem gateBit_eq_decide (ctl : Nat) : gateBit ctl = decide (ctl % 2 = 1) := Nat.testBit_zero ctl

/-- Gate edges leave the rate counter. -/
@[simp] theorem gateEdges_rc (ctl : Nat) (V : Voice) : (gateEdges ctl V).rc = V.rc := by
  unfold gateEdges; split
  · rfl
  · split <;> rfl

end

-- ---- the period in force (40 R123)

section
variable (P : SidParams) {ad sr : Nat} {V : Voice}

theorem periodInForce_attack (h : V.atk = true) : periodInForce P ad sr V = prescale P (ad / 16 % 16) := by
  simp only [periodInForce, voiceSegment, h, if_true]
  rfl

theorem periodInForce_decaySustain (hatk : V.atk = false) (hds : V.ds = true) :
    periodInForce P ad sr V = prescale P (ad % 16) := by
  simp only [periodInForce, voiceSegment, hatk, hds, Bool.false_eq_true, if_true, if_false, decayRate, slice_zero]
  rfl

theorem periodInForce_release (hatk : V.atk = false) (hds : V.ds = false) :
    periodInForce P ad sr V = prescale P (sr % 16) := by
  simp only [periodInForce, voiceSegment, hatk, hds, Bool.false_eq_true, if_false, releaseRate, slice_zero]
  rfl

/-- Entry 0 of the prescale table is no parameter (40 R124). -/
theorem prescale_zero : prescale P 0 = 9 := rfl

end

/-- Settles O18. -/
theorem periodInForceFollowsTheSegment : Obligations.PeriodInForceFollowsTheSegment := by
  unfold Obligations.PeriodInForceFollowsTheSegment
  exact fun P _ _ _ => ⟨periodInForce_attack P, periodInForce_decaySustain P, periodInForce_release P, prescale_zero P⟩

-- ---- the envelope step (40 R128 to R130)

section
variable {sr : Nat} {V : Voice}

theorem envelopeStep_attack_lt (hatk : V.atk = true) (hholdn : V.holdn = true) (h : V.env + 1 < 255) :
    envelopeStep sr V = { V with env := V.env + 1 } := by
  have hmin : min (V.env + 1) 255 = V.env + 1 := by omega
  have hne : V.env + 1 ≠ 255 := by omega
  simp only [envelopeStep, attackStep, hatk, hholdn, if_true, hmin, hne, if_false]

theorem envelopeStep_attack_end (hatk : V.atk = true) (hholdn : V.holdn = true) (h : 255 ≤ V.env + 1) :
    envelopeStep sr V = { V with env := 255, atk := false } := by
  have hmin : min (V.env + 1) 255 = 255 := by omega
  simp only [envelopeStep, attackStep, hatk, hholdn, if_true, hmin]

theorem envelopeStep_sustain (hatk : V.atk = false) (hds : V.ds = true) (henv : V.env = 17 * (sr / 16 % 16)) :
    envelopeStep sr V = V := by
  have hlevel : V.env = sustainLevel sr := henv
  cases hholdn : V.holdn
  · simp only [envelopeStep, hholdn, Bool.false_eq_true, if_false]
  · simp only [envelopeStep, decayStep, hholdn, hatk, hds, ← hlevel, Bool.false_eq_true, if_true, if_false, and_self]

theorem envelopeStep_down (hatk : V.atk = false) (hholdn : V.holdn = true)
    (h : V.ds = false ∨ V.env ≠ 17 * (sr / 16 % 16)) :
    envelopeStep sr V = { V with env := V.env - 1, holdn := if V.env - 1 = 0 then false else V.holdn } := by
  have hne : ¬(V.ds = true ∧ V.env = sustainLevel sr) := by
    rintro ⟨hds, henv⟩
    rcases h with h | h
    · rw [hds] at h; cases h
    · exact h henv
  simp only [envelopeStep, decayStep, hholdn, hatk, Bool.false_eq_true, if_true, if_false, hne]

/-- Once holdn is clear the level is frozen (40 R127). -/
theorem envelopeStep_hold (h : V.holdn = false) : envelopeStep sr V = V := by
  simp only [envelopeStep, h, Bool.false_eq_true, if_false]

end

/-- Settles O20. -/
theorem attackStepSaturatesAndEnds : Obligations.AttackStepSaturatesAndEnds := by
  unfold Obligations.AttackStepSaturatesAndEnds
  exact fun _ _ hatk hholdn => ⟨envelopeStep_attack_lt hatk hholdn, envelopeStep_attack_end hatk hholdn⟩

/-- Settles O21: below 2 the step down reaches 0. -/
theorem decayAndReleaseStepDown : Obligations.DecayAndReleaseStepDown := by
  unfold Obligations.DecayAndReleaseStepDown
  intro sr V hatk hholdn
  refine ⟨envelopeStep_sustain hatk, fun h => ?_⟩
  rw [envelopeStep_down hatk hholdn h]
  refine ⟨fun henv => ?_, fun henv => ?_⟩
  · have hne : V.env - 1 ≠ 0 := by omega
    rw [if_neg hne]
  · have hzero : V.env - 1 = 0 := by omega
    rw [if_pos hzero, hzero]

-- ---- the exponent counter (40 R127)

section
variable (P : SidParams) {sr : Nat} {V : Voice}

theorem exponentStep_attack (h : V.atk = true) : exponentStep P sr V = envelopeStep sr { V with exp := 0 } := if_pos h

theorem exponentStep_match (hatk : V.atk = false) (hexp : V.exp + 1 = expPeriod P V.env) :
    exponentStep P sr V = envelopeStep sr { V with exp := 0 } := by
  simp only [exponentStep, hatk, hexp, Bool.false_eq_true, if_true, if_false]

theorem exponentStep_count (hatk : V.atk = false) (hexp : V.exp + 1 ≠ expPeriod P V.env) :
    exponentStep P sr V = { V with exp := V.exp + 1 } := by
  simp only [exponentStep, hatk, hexp, Bool.false_eq_true, if_false]

/-- Everything the exponent step can do: start over with an envelope step, or count. -/
theorem exponentStep_cases (sr : Nat) (V : Voice) :
    exponentStep P sr V = envelopeStep sr { V with exp := 0 }
      ∨ (V.exp + 1 ≠ expPeriod P V.env ∧ exponentStep P sr V = { V with exp := V.exp + 1 }) := by
  by_cases hexp : V.exp + 1 = expPeriod P V.env
  · rcases Bool.eq_false_or_eq_true V.atk with hatk | hatk
    · exact .inl (exponentStep_attack P hatk)
    · exact .inl (exponentStep_match P hatk hexp)
  · rcases Bool.eq_false_or_eq_true V.atk with hatk | hatk
    · exact .inl (exponentStep_attack P hatk)
    · exact .inr ⟨hexp, exponentStep_count P hatk hexp⟩

end

/-- Settles O19. -/
theorem exponentCounterGatesDecayNotAttack : Obligations.ExponentCounterGatesDecayNotAttack := by
  unfold Obligations.ExponentCounterGatesDecayNotAttack
  exact fun P _ _ => ⟨exponentStep_attack P, exponentStep_match P, exponentStep_count P, envelopeStep_hold⟩

/-- Everything the envelope step can do: nothing, rise with Attack perhaps over, or fall outside Attack with holdn perhaps
cleared. -/
theorem envelopeStep_cases (sr : Nat) (V : Voice) :
    envelopeStep sr V = V
      ∨ (V.atk = true ∧ ∃ atk, envelopeStep sr V = { V with env := min (V.env + 1) 255, atk := atk })
      ∨ (V.atk = false ∧ ∃ holdn, envelopeStep sr V = { V with env := V.env - 1, holdn := holdn }) := by
  rcases Bool.eq_false_or_eq_true V.holdn with hholdn | hholdn
  · rcases Bool.eq_false_or_eq_true V.atk with hatk | hatk
    · exact .inr (.inl ⟨hatk, (attackStep V).atk, (if_pos hholdn).trans (if_pos hatk)⟩)
    · by_cases h : V.ds = true ∧ V.env = sustainLevel sr
      · exact .inl (envelopeStep_sustain hatk h.1 h.2)
      · refine .inr (.inr ⟨hatk, _, envelopeStep_down hatk hholdn ?_⟩)
        rwa [not_and_or, Bool.not_eq_true] at h
  · exact .inl (envelopeStep_hold hholdn)

-- ---- the rate counter (40 R125)

section
variable (P : SidParams) {ad sr c : Nat} {V : Voice}

theorem rateStep_of_match
    (h : periodInForce P ad sr V ≤ (V.rc + c) % 32768 ∧ (V.rc + c) % 32768 < periodInForce P ad sr V + c) :
    rateStep P ad sr c V = exponentStep P sr { V with rc := (V.rc + c) % 32768 - periodInForce P ad sr V } :=
  if_pos h

theorem rateStep_of_no_match
    (h : ¬(periodInForce P ad sr V ≤ (V.rc + c) % 32768 ∧ (V.rc + c) % 32768 < periodInForce P ad sr V + c)) :
    rateStep P ad sr c V = { V with rc := (V.rc + c) % 32768 } :=
  if_neg h

/-- With no cycles there is no match, and the counter keeps its place (40 R120). -/
theorem rateStep_zero (h : V.rc < 32768) : rateStep P ad sr 0 V = V := by
  rw [rateStep_of_no_match P (by omega), Nat.add_zero, Nat.mod_eq_of_lt h]

/-- Everything the rate counter can do: move, or move and let an exponent step follow. -/
theorem rateStep_cases (ad sr c : Nat) (V : Voice) : ∃ n, n < 32768
    ∧ (rateStep P ad sr c V = { V with rc := n } ∨ rateStep P ad sr c V = exponentStep P sr { V with rc := n }) := by
  have hn := Nat.mod_lt (V.rc + c) (show 0 < 32768 by decide)
  by_cases h : periodInForce P ad sr V ≤ (V.rc + c) % 32768 ∧ (V.rc + c) % 32768 < periodInForce P ad sr V + c
  · exact ⟨_, by omega, .inr (rateStep_of_match P h)⟩
  · exact ⟨_, hn, .inl (rateStep_of_no_match P h)⟩

@[simp] theorem envelopeStep_rc (sr : Nat) (V : Voice) : (envelopeStep sr V).rc = V.rc := by
  rcases envelopeStep_cases sr V with h | ⟨-, _, h⟩ | ⟨-, _, h⟩ <;> rw [h]

@[simp] theorem exponentStep_rc (sr : Nat) (V : Voice) : (exponentStep P sr V).rc = V.rc := by
  rcases exponentStep_cases P sr V with h | ⟨-, h⟩ <;> rw [h]
  exact envelopeStep_rc sr _

end

/-- Settles O17. -/
theorem rateCounterFollowsTheMatchCondition : Obligations.RateCounterFollowsTheMatchCondition := by
  unfold Obligations.RateCounterFollowsTheMatchCondition
  intro P ctl ad sr c V E p n
  refine ⟨rateStep_of_no_match P, fun hlo hhi => rateStep_of_match P ⟨hlo, hhi⟩, fun hlt => ?_⟩
  have hn : n = E.rc + c := Nat.mod_eq_of_lt hlt
  omega

-- ---- the voices of the machine

theorem advanceAll_none (c : Nat) {s : State} (h : s.arrivals = []) :
    advanceAll c s = advanceSub .i2 c (advanceSub .i1 c (advanceSub .i0 c s)) := by
  unfold advanceAll
  rw [hostPoint_none (advanceSub .i0 c s) h, hostPoint_none _ (by exact h)]

/-- A natural count is accepted (40 R120). -/
theorem exec_sidAdvance_nat (c : Nat) (s : State) : exec (.sidAdvance c) s = .next (advanceAll c s) := by
  rw [exec_sidAdvance, guarded_of_ok (by simp only [Instr.wellFormed, decide_eq_true_eq]; omega), Int.toNat_natCast]

/-- Settles O14: without arrivals the three sub-steps follow each other directly. -/
theorem advanceRunsEachVoiceOnItsOwnRegisters : Obligations.AdvanceRunsEachVoiceOnItsOwnRegisters := by
  unfold Obligations.AdvanceRunsEachVoiceOnItsOwnRegisters
  refine ⟨fun s c h => ?_, fun s c hc => ?_⟩
  · rw [exec_sidAdvance_nat, advanceAll_none c h]
    rfl
  · rw [exec_sidAdvance]
    exact guarded_of_not_ok (by simp only [Instr.wellFormed, decide_eq_false_iff_not]; omega)

/-- Each voice after SID_ADVANCE is its own advance (40 R120, R122). -/
theorem voice_advanceAll (c : Nat) {s : State} (h : s.arrivals = []) (v : Ix3) : voice (advanceAll c s) v
    = advanceVoice s.params (controlReg s.sid.reg v) (adReg s.sid.reg v) (srReg s.sid.reg v) c (voice s v) := by
  rw [advanceAll_none c h]
  cases v <;> rfl

/-- Settles O16: at zero cycles the rate counter of every voice stands still. -/
theorem gateEdgesAtAZeroAdvance : Obligations.GateEdgesAtAZeroAdvance := by
  unfold Obligations.GateEdgesAtAZeroAdvance
  intro s harr hrc
  refine ⟨advanceAll 0 s, exec_sidAdvance_nat 0 s, fun v => ?_⟩
  have hvoice : voice (advanceAll 0 s) v = gateEdges (controlReg s.sid.reg v) (voice s v) := by
    rw [voice_advanceAll 0 harr]
    exact rateStep_zero s.params (by rw [gateEdges_rc]; exact hrc v)
  rw [hvoice]
  exact ⟨gateEdges_rising, gateEdges_falling, gateEdges_none⟩

/-- A HOST_W act does what its operation does (20_memory R66 item 1). -/
theorem exec_instrOf (x : HostAct) (s : State) : exec (instrOf x) s = .next (applyAct x s) := by
  cases x with
  | sidWrite a d =>
    have hok : (Instr.sidWrite (a.val : Int) (d.toNat : Int)).wellFormed = true := by
      have ha := a.isLt
      have hd := d.isLt
      simp only [Instr.wellFormed, Bool.and_eq_true, decide_eq_true_eq]
      omega
    change exec (.sidWrite (a.val : Int) (d.toNat : Int)) s = _
    rw [exec_sidWrite, guarded_of_ok hok, BitVec.ofInt_natCast, BitVec.ofNat_toNat, BitVec.setWidth_eq]
    rfl
  | sidRead a =>
    have hok : (Instr.sidRead (a.val : Int)).wellFormed = true := by
      have ha := a.isLt
      simp only [Instr.wellFormed, decide_eq_true_eq]
      omega
    exact (exec_sidRead _ s).trans (guarded_of_ok hok)
  | snWrite b =>
    have hok : (Instr.snWrite (b.toNat : Int)).wellFormed = true := by
      have hb := b.isLt
      simp only [Instr.wellFormed, decide_eq_true_eq]
      omega
    exact (exec_snWrite _ s).trans (guarded_of_ok hok)
  | snGgWrite b =>
    have hok : (Instr.snGgWrite (b.toNat : Int)).wellFormed = true := by
      have hb := b.isLt
      simp only [Instr.wellFormed, decide_eq_true_eq]
      omega
    change exec (.snGgWrite (b.toNat : Int)) s = _
    rw [exec_snGgWrite, guarded_of_ok hok, BitVec.ofInt_natCast, BitVec.ofNat_toNat, BitVec.setWidth_eq]
    rfl
  | snSetMute i f => cases i <;> cases f <;> rfl

/-- Settles O15: an interleaving point takes the next entry of the arrivals, where there is one. -/
theorem hostWritesLandBetweenSubSteps : Obligations.HostWritesLandBetweenSubSteps := by
  unfold Obligations.HostWritesLandBetweenSubSteps
  refine ⟨exec_instrOf, fun _ => rfl, fun _ _ _ => rfl, fun s c x y z rest => ⟨?_, ?_, ?_, ?_, ?_, ?_⟩⟩
  · intro h s1 s2
    have h1 : hostPoint (advanceSub .i0 c s) = s1 := hostPoint_some _ x (y :: rest) h
    have h2 : hostPoint (advanceSub .i1 c s1) = s2 := hostPoint_some _ y rest (applyActs_arrivals x _)
    rw [exec_sidAdvance_nat, advanceAll, h1, h2]
  · intro h s1
    have h1 : hostPoint (advanceSub .i0 c s) = s1 := hostPoint_some _ x [] h
    rw [exec_sidAdvance_nat, advanceAll, h1, hostPoint_none (advanceSub .i1 c s1) (applyActs_arrivals x _)]
  · intro h r1 r2 r3
    have h1 : hostPoint r1.st = applyActs x { r1.st with arrivals := y :: z :: rest } :=
      hostPoint_some _ x (y :: z :: rest) h
    have h2 : hostPoint r2.st = applyActs y { r2.st with arrivals := z :: rest } :=
      hostPoint_some _ y (z :: rest) (applyActs_arrivals x _)
    have h3 : hostPoint r3.st = applyActs z { r3.st with arrivals := rest } :=
      hostPoint_some _ z rest (applyActs_arrivals y _)
    change filterSub (renderPoint (renderSub .i2 (renderPoint (renderSub .i1 (renderPoint r1))))) = _
    have hr1 : renderSub .i1 (renderPoint r1) = r2 := by rw [renderPoint, h1]
    rw [hr1]
    have hr2 : renderSub .i2 (renderPoint r2) = r3 := by rw [renderPoint, h2]
    rw [hr2, renderPoint, h3]
  · intro h r1 r2
    have h1 : hostPoint r1.st = applyActs x { r1.st with arrivals := [y] } := hostPoint_some _ x [y] h
    have h2 : hostPoint r2.st = applyActs y { r2.st with arrivals := [] } := hostPoint_some _ y [] (applyActs_arrivals x _)
    change filterSub (renderPoint (renderSub .i2 (renderPoint (renderSub .i1 (renderPoint r1))))) = _
    have hr1 : renderSub .i1 (renderPoint r1) = r2 := by rw [renderPoint, h1]
    rw [hr1, renderPoint_none (renderSub .i2 (renderPoint r2)) (by simp [renderPoint, h2]), renderPoint, h2]
  · intro h r1
    have h1 : hostPoint r1.st = applyActs x { r1.st with arrivals := [] } := hostPoint_some _ x [] h
    change filterSub (renderPoint (renderSub .i2 (renderPoint (renderSub .i1 (renderPoint r1))))) = _
    have hr1 : renderPoint r1 = { r1 with st := applyActs x { r1.st with arrivals := [] } } := by rw [renderPoint, h1]
    rw [hr1, renderPoint_none (renderSub .i1 _) (by simp), renderPoint_none (renderSub .i2 _) (by simp)]
  · intro h
    change filterSub (renderPoint (renderSub .i2 (renderPoint (renderSub .i1 (renderPoint (renderSub .i0 _)))))) = _
    rw [renderPoint_none (renderSub .i0 _) (by exact h), renderPoint_none (renderSub .i1 _) (by exact h),
      renderPoint_none (renderSub .i2 _) (by exact h)]

-- ---- repeated advances of one voice

section
variable (P : SidParams) (ctl ad sr c k : Nat) (V : Voice)

theorem advanceTimes_zero : advanceTimes P ctl ad sr c 0 V = V := rfl

theorem advanceTimes_succ :
    advanceTimes P ctl ad sr c (k + 1) V = advanceVoice P ctl ad sr c (advanceTimes P ctl ad sr c k V) :=
  Function.iterate_succ_apply' _ _ _

end

/-- A released voice with holdn clear, at level `e`. -/
structure Silent (e : Nat) (V : Voice) : Prop where
  gate : V.gate = false
  atk : V.atk = false
  ds : V.ds = false
  holdn : V.holdn = false
  env : V.env = e

/-- With holdn clear the exponent step moves its counter at most. -/
theorem Silent.exponentStep {e : Nat} {V : Voice} (h : Silent e V) (P : SidParams) (sr : Nat) :
    Silent e (exponentStep P sr V) := by
  rcases exponentStep_cases P sr V with hstep | ⟨-, hstep⟩
  · rw [hstep, envelopeStep_hold (by exact h.holdn)]
    exact ⟨h.gate, h.atk, h.ds, h.holdn, h.env⟩
  · rw [hstep]
    exact ⟨h.gate, h.atk, h.ds, h.holdn, h.env⟩

theorem Silent.advanceVoice {e ctl : Nat} {V : Voice} (h : Silent e V) (hctl : ctl % 2 = 0) (P : SidParams)
    (ad sr c : Nat) : Silent e (advanceVoice P ctl ad sr c V) := by
  have hedge : gateEdges ctl V = V := gateEdges_none (by rw [h.gate, gateBit_eq_decide, hctl]; rfl)
  have hrc : ∀ n, Silent e { V with rc := n } := fun n => ⟨h.gate, h.atk, h.ds, h.holdn, h.env⟩
  rw [Machine.advanceVoice, hedge]
  obtain ⟨n, -, h | h⟩ := rateStep_cases P ad sr c V <;> rw [h]
  · exact hrc n
  · exact (hrc n).exponentStep P sr

/-- Settles O22, by induction on the number of advances. -/
theorem silentVoiceStaysSilent : Obligations.SilentVoiceStaysSilent := by
  unfold Obligations.SilentVoiceStaysSilent
  intro P ctl ad sr c k V hgate hatk hds hholdn hctl
  have hsilent : Silent V.env (advanceTimes P ctl ad sr c k V) := by
    induction k with
    | zero => exact ⟨hgate, hatk, hds, hholdn, rfl⟩
    | succ k ih =>
      rw [advanceTimes_succ]
      exact ih.advanceVoice hctl P ad sr c
  exact ⟨hsilent.env, hsilent.holdn⟩

-- ---- the cadence under which no period is skipped (40 R131)

section
variable (P : SidParams) {ctl ad sr c : Nat} {V : Voice}

/-- Under the cadence the counter does not wrap, so the match condition is that of the period. -/
theorem advanceVoice_of_cadence_lt (hedge : gateEdges ctl V = V) (hrc : V.rc + c < periodInForce P ad sr V)
    (hcad : CadenceOk (periodInForce P ad sr V) c) : advanceVoice P ctl ad sr c V = { V with rc := V.rc + c } := by
  have hn : (V.rc + c) % 32768 = V.rc + c := Nat.mod_eq_of_lt (by omega)
  rw [advanceVoice, hedge, rateStep_of_no_match P (by omega), hn]

theorem advanceVoice_of_cadence_ge (hedge : gateEdges ctl V = V) (hrc : V.rc < periodInForce P ad sr V)
    (hge : periodInForce P ad sr V ≤ V.rc + c) (hcad : CadenceOk (periodInForce P ad sr V) c) :
    advanceVoice P ctl ad sr c V = exponentStep P sr { V with rc := V.rc + c - periodInForce P ad sr V } := by
  have hn : (V.rc + c) % 32768 = V.rc + c := Nat.mod_eq_of_lt (by omega)
  rw [advanceVoice, hedge, rateStep_of_match P (by omega), hn]

end

/-- Settles O24: the counter is below the period, or one period too far. -/
theorem noPeriodIsSkipped : Obligations.NoPeriodIsSkipped := by
  unfold Obligations.NoPeriodIsSkipped
  intro P ctl ad sr c V hedge hrc hcad
  by_cases hlt : V.rc + c < periodInForce P ad sr V
  · rw [advanceVoice_of_cadence_lt P hedge hlt hcad, Nat.mod_eq_of_lt hlt]
  · rw [advanceVoice_of_cadence_ge P hedge hrc (by omega) hcad, exponentStep_rc, Nat.mod_eq_sub_mod (by omega)]
    have hlt : V.rc + c - periodInForce P ad sr V < periodInForce P ad sr V := by omega
    exact (Nat.mod_eq_of_lt hlt).symm

-- ---- Attack

/-- Voice in Attack with its counter and its level. -/
structure Attacking (rc env : Nat) (V : Voice) : Prop where
  gate : V.gate = true
  atk : V.atk = true
  ds : V.ds = true
  holdn : V.holdn = true
  rc : V.rc = rc
  env : V.env = env

section
variable (P : SidParams) {ctl ad sr c r e : Nat} {V : Voice}

/-- A set gate bit is no edge for a voice whose gate is open. -/
theorem gateEdges_of_open (hgate : V.gate = true) (hctl : ctl % 2 = 1) : gateEdges ctl V = V :=
  gateEdges_none (by rw [hgate, gateBit_eq_decide, hctl]; rfl)

/-- An advance that does not cross the attack period moves the counter. -/
theorem Attacking.advance_lt (h : Attacking r e V) (hctl : ctl % 2 = 1) (hcad : CadenceOk (attackPeriod P ad) c)
    (hlt : r + c < attackPeriod P ad) : Attacking (r + c) e (advanceVoice P ctl ad sr c V) := by
  have hper : periodInForce P ad sr V = attackPeriod P ad := periodInForce_attack P h.atk
  rw [advanceVoice_of_cadence_lt P (gateEdges_of_open h.gate hctl) (by rw [hper, h.rc]; exact hlt)
    (by rw [hper]; exact hcad)]
  exact ⟨h.gate, h.atk, h.ds, h.holdn, congrArg (· + c) h.rc, h.env⟩

/-- The step that follows an attack match, with the counter already moved (40 R127, R128). -/
theorem advance_attack_ge (h : Attacking r e V) (hctl : ctl % 2 = 1) (hcad : CadenceOk (attackPeriod P ad) c)
    (hr : r < attackPeriod P ad) (hge : attackPeriod P ad ≤ r + c) :
    advanceVoice P ctl ad sr c V = envelopeStep sr { V with rc := r + c - attackPeriod P ad, exp := 0 } := by
  have hper : periodInForce P ad sr V = attackPeriod P ad := periodInForce_attack P h.atk
  rw [advanceVoice_of_cadence_ge P (gateEdges_of_open h.gate hctl) (by rw [hper, h.rc]; exact hr)
    (by rw [hper, h.rc]; exact hge) (by rw [hper]; exact hcad), exponentStep_attack P (by exact h.atk), hper, h.rc]

/-- An advance that crosses the attack period raises the level by one, while it stays below 255. -/
theorem Attacking.advance_ge (h : Attacking r e V) (hctl : ctl % 2 = 1) (hcad : CadenceOk (attackPeriod P ad) c)
    (hr : r < attackPeriod P ad) (hge : attackPeriod P ad ≤ r + c) (he : e + 1 < 255) :
    Attacking (r + c - attackPeriod P ad) (e + 1) (advanceVoice P ctl ad sr c V) := by
  have henv : V.env + 1 < 255 := by rw [h.env]; exact he
  rw [advance_attack_ge P h hctl hcad hr hge, envelopeStep_attack_lt (by exact h.atk) (by exact h.holdn) (by exact henv)]
  exact ⟨h.gate, h.atk, h.ds, h.holdn, rfl, congrArg (· + 1) h.env⟩

end

/-- Adding at most one period carries the quotient by at most one. -/
theorem div_mod_add_of_le {x c p : Nat} (hp : 0 < p) (hc : c ≤ p) :
    (x % p + c < p ∧ (x + c) / p = x / p ∧ (x + c) % p = x % p + c)
      ∨ (p ≤ x % p + c ∧ (x + c) / p = x / p + 1 ∧ (x + c) % p = x % p + c - p) := by
  have hx := Nat.div_add_mod x p
  have hmod := Nat.mod_lt x hp
  by_cases h : x % p + c < p
  · refine .inl ⟨h, ?_⟩
    have hxc : x + c = x % p + c + p * (x / p) := by omega
    rw [hxc, Nat.add_mul_div_left _ _ hp, Nat.add_mul_mod_self_left, Nat.div_eq_of_lt h, Nat.mod_eq_of_lt h, Nat.zero_add]
    exact ⟨rfl, rfl⟩
  · have hlt : x % p + c - p < p := by omega
    have hxc : x + c = x % p + c - p + p * (x / p + 1) := by rw [Nat.mul_add]; omega
    refine .inr ⟨by omega, ?_⟩
    rw [hxc, Nat.add_mul_div_left _ _ hp, Nat.add_mul_mod_self_left, Nat.div_eq_of_lt hlt,
      Nat.mod_eq_of_lt hlt, Nat.zero_add]
    exact ⟨rfl, rfl⟩

/-- Attack counts the periods of the elapsed cycles, while the level stays below 255 (40 R131). -/
theorem attacking_advanceTimes (P : SidParams) {ctl ad sr c : Nat} {V : Voice} (hV : Attacking V.rc V.env V)
    (hctl : ctl % 2 = 1) (hrc : V.rc < attackPeriod P ad) (hcad : CadenceOk (attackPeriod P ad) c) (k : Nat)
    (hlevel : V.env + (V.rc + k * c) / attackPeriod P ad < 255) :
    Attacking ((V.rc + k * c) % attackPeriod P ad) (V.env + (V.rc + k * c) / attackPeriod P ad)
      (advanceTimes P ctl ad sr c k V) := by
  have hp : 0 < attackPeriod P ad := by omega
  induction k with
  | zero =>
    rw [advanceTimes_zero, Nat.zero_mul, Nat.add_zero, Nat.mod_eq_of_lt hrc, Nat.div_eq_of_lt hrc, Nat.add_zero]
    exact hV
  | succ k ih =>
    have hsucc : V.rc + (k + 1) * c = V.rc + k * c + c := by rw [Nat.succ_mul, Nat.add_assoc]
    have hmod := Nat.mod_lt (V.rc + k * c) hp
    rw [hsucc] at hlevel ⊢
    rw [advanceTimes_succ]
    rcases div_mod_add_of_le (x := V.rc + k * c) hp hcad.1 with ⟨hlt, hdiv, hmod'⟩ | ⟨hge, hdiv, hmod'⟩
    · rw [hdiv] at hlevel ⊢
      rw [hmod']
      exact (ih hlevel).advance_lt P hctl hcad hlt
    · rw [hdiv] at hlevel ⊢
      rw [hmod']
      exact (ih (by omega)).advance_ge P hctl hcad hmod hge (by omega)

/-- Settles O25. -/
theorem attackLevelCountsThePeriods : Obligations.AttackLevelCountsThePeriods := by
  unfold Obligations.AttackLevelCountsThePeriods
  intro P ctl ad sr c k V hgate hatk hds hholdn hctl hrc hcad hlevel
  have h := attacking_advanceTimes P (sr := sr) ⟨hgate, hatk, hds, hholdn, rfl, rfl⟩ hctl hrc hcad k hlevel
  exact ⟨h.env, h.rc, h.atk⟩

/-- A voice whose Attack is over and whose level is held at 255. -/
structure HeldAtTop (V : Voice) : Prop where
  gate : V.gate = true
  atk : V.atk = false
  ds : V.ds = true
  env : V.env = 255

/-- At sustain nibble 15 the sustain level is 255, so that no step leaves it (40 R130). -/
theorem HeldAtTop.exponentStep {V : Voice} (h : HeldAtTop V) (P : SidParams) {sr : Nat} (hsr : sr / 16 % 16 = 15) :
    HeldAtTop (exponentStep P sr V) := by
  have hsustain : V.env = 17 * (sr / 16 % 16) := by rw [h.env, hsr]
  rcases exponentStep_cases P sr V with hstep | ⟨-, hstep⟩
  · rw [hstep, envelopeStep_sustain (by exact h.atk) (by exact h.ds) (by exact hsustain)]
    exact ⟨h.gate, h.atk, h.ds, h.env⟩
  · rw [hstep]
    exact ⟨h.gate, h.atk, h.ds, h.env⟩

theorem HeldAtTop.advanceVoice {V : Voice} (h : HeldAtTop V) (P : SidParams) {ctl sr : Nat} (hctl : ctl % 2 = 1)
    (hsr : sr / 16 % 16 = 15) (ad c : Nat) : HeldAtTop (advanceVoice P ctl ad sr c V) := by
  have hrc : ∀ n, HeldAtTop { V with rc := n } := fun n => ⟨h.gate, h.atk, h.ds, h.env⟩
  rw [Machine.advanceVoice, gateEdges_of_open h.gate hctl]
  obtain ⟨n, -, h | h⟩ := rateStep_cases P ad sr c V <;> rw [h]
  · exact hrc n
  · exact (hrc n).exponentStep P hsr

section
variable (P : SidParams) {ctl sr e : Nat} {V : Voice}

/-- The attack rate 0 has the period 9 of entry 0 (40 R124). -/
theorem attackPeriod_zero : attackPeriod P 0 = 9 := rfl

/-- Each advance of one whole period raises the level by one. -/
theorem Attacking.advance_nine (h : Attacking 0 e V) (hctl : ctl % 2 = 1) (he : e + 1 < 255) :
    Attacking 0 (e + 1) (advanceVoice P ctl 0 sr 9 V) :=
  h.advance_ge P hctl ⟨by rw [attackPeriod_zero], by rw [attackPeriod_zero]; decide⟩ (by rw [attackPeriod_zero]; decide)
    (by rw [attackPeriod_zero]) he

/-- At level 254 the next one ends Attack (40 R128). -/
theorem Attacking.advance_nine_end (h : Attacking 0 254 V) (hctl : ctl % 2 = 1) :
    HeldAtTop (advanceVoice P ctl 0 sr 9 V) := by
  have henv : 255 ≤ V.env + 1 := by rw [h.env]
  rw [advance_attack_ge P h hctl ⟨by rw [attackPeriod_zero], by rw [attackPeriod_zero]; decide⟩
    (by rw [attackPeriod_zero]; decide) (by rw [attackPeriod_zero]),
    envelopeStep_attack_end (by exact h.atk) (by exact h.holdn) (by exact henv)]
  exact ⟨h.gate, rfl, h.ds, rfl⟩

/-- From a reset voice the first advance opens the gate and counts its first period (W1). -/
theorem attacking_first_advance (seed : Nat) (hctl : ctl % 2 = 1) :
    Attacking 0 1 (advanceVoice P ctl 0 sr 9 (Voice.reset seed)) := by
  have hbit : gateBit ctl = true := by rw [gateBit_eq_decide, hctl]; rfl
  have hopen : Attacking 0 0 (gateEdges ctl (Voice.reset seed)) := by
    rw [gateEdges_rising rfl hbit]
    exact ⟨rfl, rfl, rfl, rfl, rfl, rfl⟩
  have hsame : advanceVoice P ctl 0 sr 9 (Voice.reset seed)
      = advanceVoice P ctl 0 sr 9 (gateEdges ctl (Voice.reset seed)) := by
    rw [advanceVoice, advanceVoice, gateEdges_of_open hopen.gate hctl]
  rw [hsame]
  exact hopen.advance_nine P hctl (by decide)

end

/-- Settles O26: 254 advances within Attack, the one that ends it, and then none that leaves the top. -/
theorem fullAttackAfter255Periods : Obligations.FullAttackAfter255Periods := by
  unfold Obligations.FullAttackAfter255Periods
  intro P ctl sr seed k hctl hsr hk
  have hrise : ∀ n, n + 1 < 255 → Attacking 0 (n + 1) (advanceTimes P ctl 0 sr 9 (n + 1) (Voice.reset seed)) := by
    intro n hn
    induction n with
    | zero => exact attacking_first_advance P seed hctl
    | succ n ih =>
      rw [advanceTimes_succ]
      exact (ih (by omega)).advance_nine P hctl hn
  have htop : ∀ n, HeldAtTop (advanceTimes P ctl 0 sr 9 (255 + n) (Voice.reset seed)) := by
    intro n
    induction n with
    | zero =>
      change HeldAtTop (advanceTimes P ctl 0 sr 9 (254 + 1) (Voice.reset seed))
      rw [advanceTimes_succ]
      exact (hrise 253 (by decide)).advance_nine_end P hctl
    | succ n ih =>
      rw [← Nat.add_assoc, advanceTimes_succ]
      exact ih.advanceVoice P hctl hsr 0 9
  refine ⟨fun hlt => ?_, fun hge => ?_⟩
  · obtain ⟨n, rfl⟩ : ∃ n, k = n + 1 := ⟨k - 1, by omega⟩
    exact ⟨(hrise n hlt).env, (hrise n hlt).atk⟩
  · obtain ⟨n, rfl⟩ : ∃ n, k = 255 + n := ⟨k - 255, by omega⟩
    exact ⟨(htop n).env, (htop n).atk⟩

-- ---- the ranges of the envelope fields (10_state R23 to R26, 40 R133)

/-- The reachable combinations: `ds` follows `gate`, and Attack has the gate open and holdn set (10_state R23). -/
theorem adsrLegal_iff (V : Voice) : AdsrLegal V ↔ V.ds = V.gate ∧ (V.atk = true → V.gate = true ∧ V.holdn = true) := by
  have h : ∀ gate atk ds holdn : Bool,
      (gate, atk, ds, holdn) ∈ [(false, false, false, false), (false, false, false, true), (true, false, true, false),
        (true, false, true, true), (true, true, true, true)]
      ↔ ds = gate ∧ (atk = true → gate = true ∧ holdn = true) := by decide
  exact h V.gate V.atk V.ds V.holdn

theorem AdsrLegal.gateEdges {V : Voice} (h : AdsrLegal V) (ctl : Nat) : AdsrLegal (gateEdges ctl V) := by
  unfold Machine.gateEdges
  split
  · exact (adsrLegal_iff _).mpr ⟨rfl, fun hatk => by cases hatk⟩
  · split
    · exact (adsrLegal_iff _).mpr ⟨rfl, fun _ => ⟨rfl, rfl⟩⟩
    · exact h

theorem AdsrLegal.envelopeStep {V : Voice} (h : AdsrLegal V) (sr : Nat) : AdsrLegal (envelopeStep sr V) := by
  obtain ⟨hds, hattack⟩ := (adsrLegal_iff V).mp h
  rcases envelopeStep_cases sr V with hstep | ⟨hatk, atk, hstep⟩ | ⟨hatk, holdn, hstep⟩ <;> rw [hstep]
  · exact h
  · exact (adsrLegal_iff _).mpr ⟨hds, fun _ => hattack hatk⟩
  · exact (adsrLegal_iff _).mpr ⟨hds, fun hatk' => by rw [hatk] at hatk'; cases hatk'⟩

theorem AdsrLegal.exponentStep {V : Voice} (h : AdsrLegal V) (P : SidParams) (sr : Nat) :
    AdsrLegal (exponentStep P sr V) := by
  rcases exponentStep_cases P sr V with hstep | ⟨-, hstep⟩ <;> rw [hstep]
  · exact AdsrLegal.envelopeStep (V := { V with exp := 0 }) h sr
  · exact h

theorem AdsrLegal.advanceVoice {V : Voice} (h : AdsrLegal V) (P : SidParams) (ctl ad sr c : Nat) :
    AdsrLegal (advanceVoice P ctl ad sr c V) := by
  have hedge := AdsrLegal.gateEdges h ctl
  obtain ⟨n, -, h | h⟩ := rateStep_cases P ad sr c (Machine.gateEdges ctl V) <;> rw [Machine.advanceVoice, h]
  · exact hedge
  · exact AdsrLegal.exponentStep (V := { Machine.gateEdges ctl V with rc := n }) hedge P sr

/-- Every entry of the exponent table is at least 1 (40 R126). -/
theorem expPeriod_pos {P : SidParams} (hP : ParamsOk P) (level : Nat) : 1 ≤ expPeriod P level := by
  obtain ⟨-, -, -, hrange, -⟩ := hP
  unfold expPeriod
  by_cases hlevel : level < P.expPeriod.length
  · rw [List.getD_eq_getElem _ _ hlevel]
    exact (hrange _ (List.getElem_mem hlevel)).1
  · rw [List.getD_eq_default _ _ (by omega)]

/-- The envelope step leaves the exponent counter. -/
@[simp] theorem envelopeStep_exp (sr : Nat) (V : Voice) : (envelopeStep sr V).exp = V.exp := by
  rcases envelopeStep_cases sr V with h | ⟨-, _, h⟩ | ⟨-, _, h⟩ <;> rw [h]

/-- The exponent counter stays below the period of the level: it starts over, or counts up to a period it has not met. -/
theorem EnvelopeOk.exponentStep {P : SidParams} (hP : ParamsOk P) {V : Voice} (h : EnvelopeOk P V) (sr : Nat) :
    EnvelopeOk P (exponentStep P sr V) := by
  obtain ⟨hrc, henv, hexp⟩ := h
  refine ⟨by rw [exponentStep_rc]; exact hrc, exponentStep_env_le P sr henv, ?_⟩
  rcases exponentStep_cases P sr V with hstep | ⟨hne, hstep⟩ <;> rw [hstep]
  · rw [envelopeStep_exp]
    exact expPeriod_pos hP _
  · change V.exp + 1 < expPeriod P V.env
    omega

theorem EnvelopeOk.gateEdges {P : SidParams} {V : Voice} (h : EnvelopeOk P V) (ctl : Nat) :
    EnvelopeOk P (gateEdges ctl V) := by
  unfold Machine.gateEdges
  split
  · exact h
  · split <;> exact h

theorem EnvelopeOk.advanceVoice {P : SidParams} (hP : ParamsOk P) {V : Voice} (h : EnvelopeOk P V) (ctl ad sr c : Nat) :
    EnvelopeOk P (advanceVoice P ctl ad sr c V) := by
  obtain ⟨-, henv, hexp⟩ := EnvelopeOk.gateEdges h ctl
  have hrc : ∀ n, n < 32768 → EnvelopeOk P { Machine.gateEdges ctl V with rc := n } := fun n hn => ⟨hn, henv, hexp⟩
  obtain ⟨n, hn, h | h⟩ := rateStep_cases P ad sr c (Machine.gateEdges ctl V) <;> rw [Machine.advanceVoice, h]
  · exact hrc n hn
  · exact EnvelopeOk.exponentStep hP (hrc n hn) sr

/-- An advance leaves the waveform fields (40 R120). -/
structure SameWave (V W : Voice) : Prop where
  acc : W.acc = V.acc
  pacc : W.pacc = V.pacc
  lfsr : W.lfsr = V.lfsr
  pwav : W.pwav = V.pwav
  pblend : W.pblend = V.pblend

theorem SameWave.trans {U V W : Voice} (h : SameWave U V) (k : SameWave V W) : SameWave U W :=
  ⟨k.acc.trans h.acc, k.pacc.trans h.pacc, k.lfsr.trans h.lfsr, k.pwav.trans h.pwav, k.pblend.trans h.pblend⟩

theorem gateEdges_sameWave (ctl : Nat) (V : Voice) : SameWave V (gateEdges ctl V) := by
  unfold gateEdges
  split
  · exact ⟨rfl, rfl, rfl, rfl, rfl⟩
  · split <;> exact ⟨rfl, rfl, rfl, rfl, rfl⟩

theorem envelopeStep_sameWave (sr : Nat) (V : Voice) : SameWave V (envelopeStep sr V) := by
  rcases envelopeStep_cases sr V with h | ⟨-, _, h⟩ | ⟨-, _, h⟩ <;> rw [h] <;> exact ⟨rfl, rfl, rfl, rfl, rfl⟩

theorem exponentStep_sameWave (P : SidParams) (sr : Nat) (V : Voice) : SameWave V (exponentStep P sr V) := by
  rcases exponentStep_cases P sr V with h | ⟨-, h⟩ <;> rw [h]
  · exact SameWave.trans (V := { V with exp := 0 }) ⟨rfl, rfl, rfl, rfl, rfl⟩ (envelopeStep_sameWave sr _)
  · exact ⟨rfl, rfl, rfl, rfl, rfl⟩

theorem advanceVoice_sameWave (P : SidParams) (ctl ad sr c : Nat) (V : Voice) :
    SameWave V (advanceVoice P ctl ad sr c V) := by
  have hrc : ∀ n, SameWave V { gateEdges ctl V with rc := n } := fun n =>
    (gateEdges_sameWave ctl V).trans ⟨rfl, rfl, rfl, rfl, rfl⟩
  obtain ⟨n, -, h | h⟩ := rateStep_cases P ad sr c (gateEdges ctl V) <;> rw [advanceVoice, h]
  · exact hrc n
  · exact (hrc n).trans (exponentStep_sameWave P sr _)

theorem WaveOk.of_sameWave {V W : Voice} (h : WaveOk V) (k : SameWave V W) : WaveOk W := by
  unfold WaveOk
  rw [k.acc, k.pacc, k.lfsr, k.pwav, k.pblend]
  exact h

end Sys2Proof.Proofs

/-! PROOFS. `renderVoice` (41 R150 to R176): which branch of the waveform selector a selector takes, what each branch gives,
the 16 bits of every value, and what the sub-step of one voice leaves. -/

namespace Sys2Proof.Proofs

open Sys2Proof.Machine Sys2Proof.Claims Sys2Proof.Laws

-- ---- the waveform selector (41 R155)

section
variable (P : SidParams) {x : WaveIn}

theorem selectWave_noise (h3 : bit x.wf 3 = true) : selectWave P x = noiseWave x := if_pos h3

theorem selectWave_pulse (h3 : bit x.wf 3 = false) (h2 : bit x.wf 2 = true) : selectWave P x = pulseWave P x := by
  simp only [selectWave, h3, h2, Bool.false_eq_true, if_true, if_false]

theorem selectWave_saw (h3 : bit x.wf 3 = false) (h2 : bit x.wf 2 = false) (h1 : bit x.wf 1 = true) :
    selectWave P x = sawWave P x := by
  simp only [selectWave, h3, h2, h1, Bool.false_eq_true, if_true, if_false]

theorem selectWave_triangle (h : x.wf = 1) : selectWave P x = ⟨triangle x.acc x.rsrc, x.lfsr, x.pblend⟩ := by
  simp only [selectWave, h]
  rfl

theorem selectWave_hold (h : x.wf = 0) : selectWave P x = ⟨x.pwav, x.lfsr, x.pblend⟩ := by
  simp only [selectWave, h]
  rfl

/-- The branch of every selector of four bits. -/
theorem selectWave_cases (hwf : x.wf ≤ 15) : (bit x.wf 3 = true ∧ selectWave P x = noiseWave x)
    ∨ (bit x.wf 3 = false ∧ selectWave P x = pulseWave P x) ∨ (bit x.wf 3 = false ∧ selectWave P x = sawWave P x)
    ∨ (bit x.wf 3 = false ∧ selectWave P x = ⟨triangle x.acc x.rsrc, x.lfsr, x.pblend⟩)
    ∨ (bit x.wf 3 = false ∧ selectWave P x = ⟨x.pwav, x.lfsr, x.pblend⟩) := by
  have hlow : ∀ wf ≤ 15, bit wf 3 = false → bit wf 2 = false → bit wf 1 = false → wf = 0 ∨ wf = 1 := by decide
  rcases Bool.eq_false_or_eq_true (bit x.wf 3) with h3 | h3
  · exact .inl ⟨h3, selectWave_noise P h3⟩
  · rcases Bool.eq_false_or_eq_true (bit x.wf 2) with h2 | h2
    · exact .inr (.inl ⟨h3, selectWave_pulse P h3 h2⟩)
    · rcases Bool.eq_false_or_eq_true (bit x.wf 1) with h1 | h1
      · exact .inr (.inr (.inl ⟨h3, selectWave_saw P h3 h2 h1⟩))
      · rcases hlow x.wf hwf h3 h2 h1 with h0 | h0
        · exact .inr (.inr (.inr (.inr ⟨h3, selectWave_hold P h0⟩)))
        · exact .inr (.inr (.inr (.inl ⟨h3, selectWave_triangle P h0⟩)))

end

-- ---- noise (41 R157 to R160)

theorem bitNat_mul (b : Bool) (n : Nat) : bitNat b * n = if b then n else 0 := by
  cases b
  · exact Nat.zero_mul n
  · exact Nat.one_mul n

/-- The LFSR is clocked by a change of bit 24, or by a large step (41 R157). -/
theorem noiseClocked_iff (acc pacc step : Nat) :
    noiseClocked acc pacc step = true ↔ acc.testBit 24 ≠ pacc.testBit 24 ∨ 2 ^ 24 ≤ step := by
  simp only [noiseClocked, bit, Bool.or_eq_true, decide_eq_true_eq]
  cases acc.testBit 24 <;> cases pacc.testBit 24 <;> simp

theorem lfsrStep_eq (l : Nat) (test : Bool) : lfsrStep l test
    = l * 2 % 2 ^ 23 + (if l.testBit 22 ≠ l.testBit 17 ∨ test = true then 1 else 0) := by
  unfold lfsrStep bit bitNat
  cases l.testBit 22 <;> cases l.testBit 17 <;> cases test <;> rfl

theorem noiseWave_lfsr_clocked {x : WaveIn} (h : noiseClocked x.acc x.pacc x.step = true) :
    (noiseWave x).lfsr = lfsrStep x.lfsr x.test := if_pos h

theorem noiseWave_lfsr_still {x : WaveIn} (h : ¬noiseClocked x.acc x.pacc x.step = true) :
    (noiseWave x).lfsr = x.lfsr := if_neg h

theorem noiseWave_w (x : WaveIn) : (noiseWave x).w = if slice x.wf 2 0 ≠ 0 then 0 else noiseOut (noiseWave x).lfsr := rfl

/-- Settles O29: the eight taps are the summands of the noise output. -/
theorem noiseOutputGathersEightTaps : Obligations.NoiseOutputGathersEightTaps := by
  unfold Obligations.NoiseOutputGathersEightTaps
  intro P x
  have hmixed : ∀ wf ≤ 15, 9 ≤ wf → bit wf 3 = true ∧ slice wf 2 0 ≠ 0 := by decide
  refine ⟨fun h => ?_, fun hlo hhi => ?_⟩
  · have hpure : ¬slice x.wf 2 0 ≠ 0 := by rw [h]; decide
    rw [selectWave_noise P (by rw [h]; rfl), noiseWave_w, if_neg hpure]
    simp only [noiseOut, bit, bitNat_mul, List.zip_cons_cons, List.zip_nil_right, List.map_cons, List.map_nil,
      List.sum_cons, List.sum_nil, Nat.add_zero, Nat.add_assoc]
  · obtain ⟨h3, hlow⟩ := hmixed x.wf hhi hlo
    rw [selectWave_noise P h3, noiseWave_w, if_pos hlow]

theorem noiseOut_le (l : Nat) : noiseOut l ≤ 0xFFFF := by
  have hbit := fun k => bitNat_le_one (bit l k)
  have h20 := hbit 20
  have h18 := hbit 18
  have h14 := hbit 14
  have h11 := hbit 11
  have h9 := hbit 9
  have h5 := hbit 5
  have h2 := hbit 2
  have h0 := hbit 0
  unfold noiseOut
  omega

/-- The LFSR never empties: a lone bit 22 feeds itself back (10_state R28, 41 R158). -/
theorem lfsrStep_range {l : Nat} (hpos : 1 ≤ l) (hlt : l < 2 ^ 23) (test : Bool) :
    1 ≤ lfsrStep l test ∧ lfsrStep l test < 2 ^ 23 := by
  have hfill := bitNat_le_one (xor (bit l 22) (bit l 17) || test)
  refine ⟨?_, by unfold lfsrStep; omega⟩
  by_cases hlow : l * 2 % 2 ^ 23 = 0
  · have hl : l = 2 ^ 22 := by omega
    have hfeed : (xor (bit l 22) (bit l 17) || test) = true := by rw [hl]; cases test <;> rfl
    unfold lfsrStep
    rw [hfeed]
    exact Nat.le_add_left 1 _
  · unfold lfsrStep
    omega

-- ---- pulse (41 R161 to R169)

theorem steepness_nonneg (P : SidParams) (step : Nat) : 0 ≤ steepness P step := by
  unfold steepness
  split
  · exact Int.natCast_nonneg _
  · decide

/-- What is left at a phase of the second ramp, less the cap (41 R163). -/
def fallRamp (P : SidParams) (ph : Nat) (pw : Int) (step : Nat) : Int :=
  (0xFFFF - (ph : Int)) * steepness P step - min (pw * steepness P step) 0xFFFF

/-- Within the phase's range the second ramp falls short of the cap at most. -/
theorem fallRamp_ge (P : SidParams) {ph : Nat} (hph : ph ≤ 0xFFFF) (pw : Int) (step : Nat) :
    -0xFFFF ≤ fallRamp P ph pw step := by
  have hramp : 0 ≤ (0xFFFF - (ph : Int)) * steepness P step := mul_nonneg (by omega) (steepness_nonneg P step)
  unfold fallRamp
  omega

section
variable (P : SidParams) {ph step : Nat} {pw : Int}

theorem trapezoid_test : trapezoid P ph pw step true = 0xFFFF := rfl

theorem trapezoid_rise (h : (ph : Int) < pw) : trapezoid P ph pw step false
    = max (min ((0xFFFF - pw) * steepness P step) 0xFFFF - (pw - ph) * steepness P step) 0 := by
  simp only [trapezoid, h, Bool.false_eq_true, if_true, if_false]

theorem trapezoid_full (h : pw ≤ ph) (hd : 0 ≤ fallRamp P ph pw step) : trapezoid P ph pw step false = 0xFFFF := by
  rw [fallRamp] at hd
  simp only [trapezoid, not_lt.mpr h, ge_iff_le, hd, Bool.false_eq_true, if_true, if_false]

theorem trapezoid_fall (h : pw ≤ ph) (hd : fallRamp P ph pw step < 0) :
    trapezoid P ph pw step false = 0x10000 + fallRamp P ph pw step := by
  rw [fallRamp] at hd ⊢
  simp only [trapezoid, not_lt.mpr h, ge_iff_le, not_le.mpr hd, Bool.false_eq_true, if_false]

/-- The trapezoid stays in 16 bits for every width; only its lower bound needs a phase in range (41 R156, R163). -/
theorem trapezoid_le (ph step : Nat) (pw : Int) (test : Bool) : trapezoid P ph pw step test ≤ 0xFFFF := by
  have hst := steepness_nonneg P step
  cases test
  · by_cases h : (ph : Int) < pw
    · have hramp : 0 ≤ (pw - ph) * steepness P step := mul_nonneg (by omega) hst
      rw [trapezoid_rise P h]
      omega
    · by_cases hd : 0 ≤ fallRamp P ph pw step
      · rw [trapezoid_full P (by omega) hd]
      · rw [trapezoid_fall P (by omega) (by omega)]
        omega
  · rw [trapezoid_test]

theorem trapezoid_nonneg (hph : ph ≤ 0xFFFF) (pw : Int) (test : Bool) : 0 ≤ trapezoid P ph pw step test := by
  have hfall := fallRamp_ge P hph pw step
  cases test
  · by_cases h : (ph : Int) < pw
    · rw [trapezoid_rise P h]
      exact le_max_right _ _
    · by_cases hd : 0 ≤ fallRamp P ph pw step
      · rw [trapezoid_full P (by omega) hd]
        decide
      · rw [trapezoid_fall P (by omega) (by omega)]
        omega
  · rw [trapezoid_test]
    decide

end

theorem pulseWave_trapezoid (P : SidParams) {x : WaveIn} (h : x.wf = 4) : pulseWave P x
    = ⟨(trapezoid P (x.acc >>> 12) (pulseWidth P x.pwreg x.step) x.step x.test).toNat, x.lfsr, x.pblend⟩ := if_pos h

/-- The pulse is low while the phase is below the width and TEST is clear (41 R164). -/
def PulseLow (P : SidParams) (x : WaveIn) : Prop :=
  ((x.acc / 2 ^ 12 : Nat) : Int) < pulseWidth P x.pwreg x.step ∧ x.test = false

/-- The table entry of a combined pulse (41 R167 to R169). -/
def combEntry (x : WaveIn) : BitVec 16 :=
  if x.wf = 5 then Config.combPT x.model ((x.acc ^^^ x.rsrc) / 2 ^ 16)
  else if x.wf = 6 then Config.combPS x.model (x.acc / 2 ^ 16) else Config.combPTS x.model (x.acc / 2 ^ 16)

theorem not_pulseLow_iff (P : SidParams) (x : WaveIn) :
    ¬PulseLow P x ↔ (((x.acc >>> 12 : Nat) : Int) ≥ pulseWidth P x.pwreg x.step ∨ x.test = true) := by
  rw [PulseLow, Nat.shiftRight_eq_div_pow, not_and_or, not_lt, Bool.not_eq_false]

section
variable (P : SidParams) {x : WaveIn}

theorem pulseWave_low (hwf : x.wf = 5 ∨ x.wf = 6 ∨ x.wf = 7) (hlow : PulseLow P x) :
    pulseWave P x = ⟨0, x.lfsr, x.pblend⟩ := by
  have hne : x.wf ≠ 4 := by omega
  have hbranch := mt (not_pulseLow_iff P x).mpr (not_not.mpr hlow)
  simp only [pulseWave, hne, hbranch, if_true, if_false, not_false_eq_true]

theorem pulseWave_high (hwf : x.wf = 5 ∨ x.wf = 6 ∨ x.wf = 7) (hhigh : ¬PulseLow P x) :
    pulseWave P x = blendWave x (combEntry x).toNat := by
  have hne : x.wf ≠ 4 := by omega
  have hbranch := (not_pulseLow_iff P x).mp hhigh
  unfold pulseWave
  rw [if_neg hne, if_neg (not_not.mpr hbranch)]
  rcases hwf with h | h | h <;> simp [combEntry, h, Nat.shiftRight_eq_div_pow]

theorem blendWave_eq (x : WaveIn) (tv : Nat) : blendWave x tv
    = ⟨(tv * blendCoeff x.freqHi + x.pblend * (0xFFFF - blendCoeff x.freqHi)) / 2 ^ 16, x.lfsr,
        (tv * blendCoeff x.freqHi + x.pblend * (0xFFFF - blendCoeff x.freqHi)) / 2 ^ 16⟩ := by
  simp only [blendWave, blend, Nat.shiftRight_eq_div_pow]

theorem selectWave_combined (hwf : x.wf = 5 ∨ x.wf = 6 ∨ x.wf = 7) : selectWave P x = pulseWave P x := by
  rcases hwf with h | h | h <;> exact selectWave_pulse P (by rw [h]; rfl) (by rw [h]; rfl)

end

/-- Settles O33. -/
theorem lowCombinedPulseIsZeroAndKeepsTheBlend : Obligations.LowCombinedPulseIsZeroAndKeepsTheBlend := by
  unfold Obligations.LowCombinedPulseIsZeroAndKeepsTheBlend
  intro P x hwf low entry f b
  refine ⟨fun hlow => ?_, fun hhigh => ?_⟩
  · rw [selectWave_combined P hwf, pulseWave_low P hwf hlow]
    exact ⟨rfl, rfl⟩
  · rw [selectWave_combined P hwf, pulseWave_high P hwf hhigh, blendWave_eq]
    exact ⟨rfl, rfl⟩

/-- Selector 0100 gives the trapezoid, with LFSR and blend kept (41 R155, R163). -/
theorem selectWave_trapezoid (P : SidParams) {x : WaveIn} (h : x.wf = 4) : selectWave P x
    = ⟨(trapezoid P (x.acc / 2 ^ 12) (pulseWidth P x.pwreg x.step) x.step x.test).toNat, x.lfsr, x.pblend⟩ := by
  rw [selectWave_pulse P (by rw [h]; rfl) (by rw [h]; rfl), pulseWave_trapezoid P h, Nat.shiftRight_eq_div_pow]

/-- The corrected width as one expression in the minimum width `t` (41 R162). -/
theorem pulseWidth_eq (P : SidParams) (pwreg step : Nat) : pulseWidth P pwreg step
    = min (if 0 < pwreg ∧ pwreg * 16 < step >>> P.pwMinShift then ((step >>> P.pwMinShift : Nat) : Int)
        else (pwreg : Int) * 16) (0xFFFF - ((step >>> P.pwMinShift : Nat) : Int)) := by
  have hcast : ((0 : Int) < (pwreg : Int) * 16 ∧ (pwreg : Int) * 16 < ((step >>> P.pwMinShift : Nat) : Int))
      ↔ 0 < pwreg ∧ pwreg * 16 < step >>> P.pwMinShift := by omega
  simp only [pulseWidth, hcast]
  split <;> split <;> omega

/-- Settles O34: the width by the cases of its correction, the trapezoid by its branches. -/
theorem pulseWidthIsCorrectedIntoRange : Obligations.PulseWidthIsCorrectedIntoRange := by
  unfold Obligations.PulseWidthIsCorrectedIntoRange
  refine ⟨fun P pwreg step hreg hshift => ?_, fun P ph pw step => ?_, fun P x hwf hacc => ?_⟩
  · intro t
    have hwidth := pulseWidth_eq P pwreg step
    refine ⟨?_, ?_, fun hlo hhi => ?_, fun hreg hlo hhi => ?_, fun hreg hover => ?_, fun hzero => ?_⟩
    · rw [hwidth]; split <;> omega
    · rw [hwidth]; exact min_le_right _ _
    · rw [hwidth, if_neg (by omega)]; omega
    · rw [hwidth, if_pos ⟨hreg, hlo⟩]; omega
    · rw [hwidth]; split <;> omega
    · have hpw : pulseWidth P pwreg step = 0 := by rw [hwidth, if_neg (by omega)]; omega
      refine ⟨hpw, fun ph test hph => ?_⟩
      rw [hpw]
      cases test
      · have hramp : 0 ≤ (0xFFFF - (ph : Int)) * steepness P step := mul_nonneg (by omega) (steepness_nonneg P step)
        exact trapezoid_full P (by omega) (by unfold fallRamp; omega)
      · exact trapezoid_test P
  · exact ⟨trapezoid_test P, trapezoid_rise P, trapezoid_full P, trapezoid_fall P⟩
  · rw [selectWave_trapezoid P hwf]
    exact ⟨Int.toNat_of_nonneg (trapezoid_nonneg P (by omega) _ _), rfl, rfl⟩

theorem blendCoeff_le (freqHi : Nat) : blendCoeff freqHi ≤ 0xFFFF := by
  have h : 0x8888 / max freqHi 1 ≤ 0x8888 := Nat.div_le_self _ _
  unfold blendCoeff
  omega

/-- The blend is a weighted mean of two 16-bit values (41 R166). -/
theorem blend_le (freqHi : Nat) {tv pblend : Nat} (htv : tv ≤ 0xFFFF) (hpblend : pblend ≤ 0xFFFF) :
    blend freqHi tv pblend ≤ 0xFFFF := by
  have hF := blendCoeff_le freqHi
  have hnew : tv * blendCoeff freqHi ≤ 0xFFFF * blendCoeff freqHi := Nat.mul_le_mul_right _ htv
  have hold : pblend * (0xFFFF - blendCoeff freqHi) ≤ 0xFFFF * (0xFFFF - blendCoeff freqHi) := Nat.mul_le_mul_right _ hpblend
  unfold blend
  rw [Nat.shiftRight_eq_div_pow]
  omega

theorem toNat_le_ffff (b : BitVec 16) : b.toNat ≤ 0xFFFF := Nat.le_of_lt_succ b.isLt

/-- Everything the pulse branch can give: the trapezoid, a low combined pulse, or a blended table entry. -/
theorem pulseWave_cases (P : SidParams) (x : WaveIn) :
    pulseWave P x = ⟨(trapezoid P (x.acc >>> 12) (pulseWidth P x.pwreg x.step) x.step x.test).toNat, x.lfsr, x.pblend⟩
      ∨ pulseWave P x = ⟨0, x.lfsr, x.pblend⟩ ∨ ∃ b : BitVec 16, pulseWave P x = blendWave x b.toNat := by
  dsimp only [pulseWave]
  split
  · exact .inl rfl
  · split
    · exact .inr (.inl rfl)
    · split
      · exact .inr (.inr ⟨_, rfl⟩)
      · split <;> exact .inr (.inr ⟨_, rfl⟩)

theorem pulseWave_range (P : SidParams) {x : WaveIn} (hpblend : x.pblend ≤ 0xFFFF) :
    (pulseWave P x).w ≤ 0xFFFF ∧ (pulseWave P x).pblend ≤ 0xFFFF := by
  have hblend : ∀ b : BitVec 16, (blendWave x b.toNat).w ≤ 0xFFFF ∧ (blendWave x b.toNat).pblend ≤ 0xFFFF :=
    fun b => ⟨blend_le _ (toNat_le_ffff b) hpblend, blend_le _ (toNat_le_ffff b) hpblend⟩
  rcases pulseWave_cases P x with h | h | ⟨b, h⟩ <;> rw [h]
  · exact ⟨Int.toNat_le.mpr (trapezoid_le P _ _ _ _), hpblend⟩
  · exact ⟨Nat.zero_le _, hpblend⟩
  · exact hblend b

@[simp] theorem pulseWave_lfsr (P : SidParams) (x : WaveIn) : (pulseWave P x).lfsr = x.lfsr := by
  rcases pulseWave_cases P x with h | h | ⟨b, h⟩ <;> rw [h]
  rfl

-- ---- sawtooth and triangle (41 R170 to R173)

/-- The sawtooth's slope correction (41 R171). -/
def sawSlope (P : SidParams) (step : Nat) : Nat := max 1 (step / 16 / P.sawK)

theorem saw_eq (P : SidParams) (w0 step : Nat) : saw P w0 step
    = if 0xFFFF < w0 + w0 * sawSlope P step / 2 ^ 16
      then 0xFFFF - (w0 + w0 * sawSlope P step / 2 ^ 16 - 0x10000) * 2 ^ 16 / sawSlope P step
      else w0 + w0 * sawSlope P step / 2 ^ 16 := by
  dsimp only [saw]
  rw [Nat.shiftRight_eq_div_pow, Nat.shiftRight_eq_div_pow]
  rfl

theorem saw_le (P : SidParams) (w0 step : Nat) : saw P w0 step ≤ 0xFFFF := by
  rw [saw_eq]
  split
  · exact Nat.sub_le _ _
  · omega

/-- The overshoot, scaled back by the slope, does not exceed the uncorrected value. -/
theorem saw_overshoot_le {w0 k : Nat} (hk : 1 ≤ k) (hw : w0 ≤ 0xFFFF) :
    (w0 + w0 * k / 2 ^ 16 - 0x10000) * 2 ^ 16 / k ≤ 0xFFFF := by
  have hscaled : (w0 + w0 * k / 2 ^ 16 - 0x10000) * 2 ^ 16 ≤ w0 * k := by omega
  calc (w0 + w0 * k / 2 ^ 16 - 0x10000) * 2 ^ 16 / k ≤ w0 * k / k := Nat.div_le_div_right hscaled
    _ = w0 := Nat.mul_div_cancel _ hk
    _ ≤ 0xFFFF := hw

/-- Flipping every bit below `2^n` reflects the range (41 R173). -/
theorem xor_ones {x n : Nat} (h : x < 2 ^ n) : x ^^^ (2 ^ n - 1) = 2 ^ n - 1 - x := by
  have hsub : 2 ^ n - 1 - x = 2 ^ n - (x + 1) := by omega
  apply Nat.eq_of_testBit_eq
  intro i
  rw [hsub, Nat.testBit_two_pow_sub_succ h, Nat.testBit_xor, Nat.testBit_two_pow_sub_one]
  by_cases hi : i < n
  · simp [hi]
  · have hhigh : x < 2 ^ i := h.trans_le (Nat.pow_le_pow_right (by decide) (by omega))
    simp [hi, Nat.testBit_lt_two_pow hhigh]

theorem bit27_iff {x : Nat} (h : x < 2 ^ 28) : bit x 27 = true ↔ 2 ^ 27 ≤ x := by
  rw [bit, Nat.testBit_eq_decide_div_mod_eq, decide_eq_true_eq]
  omega

/-- The triangle as a reflection of the ring-modulated phase (41 R173). -/
theorem triangle_eq {acc rsrc : Nat} (h : acc ^^^ rsrc < 2 ^ 28) : triangle acc rsrc
    = (if 2 ^ 27 ≤ acc ^^^ rsrc then 2 ^ 28 - 1 - (acc ^^^ rsrc) else acc ^^^ rsrc) / 2 ^ 11 := by
  dsimp only [triangle]
  by_cases hmsb : 2 ^ 27 ≤ acc ^^^ rsrc
  · rw [if_pos ((bit27_iff h).mpr hmsb), if_pos hmsb, Nat.shiftRight_eq_div_pow]
    exact congrArg (· / 2 ^ 11) (xor_ones h)
  · rw [if_neg (mt (bit27_iff h).mp hmsb), if_neg hmsb, Nat.shiftRight_eq_div_pow, Nat.xor_zero]

theorem triangle_le {acc rsrc : Nat} (h : acc ^^^ rsrc < 2 ^ 28) : triangle acc rsrc ≤ 0xFFFF := by
  rw [triangle_eq h]
  split <;> omega

/-- Flipping bit 27 is half a turn of the phase (41 R173, R175). -/
theorem xor_msb_eq_add {acc : Nat} (h : acc < 2 ^ 28) : acc ^^^ 2 ^ 27 = (acc + 2 ^ 27) % 2 ^ 28 := by
  have hlow : (acc ^^^ 2 ^ 27) % 2 ^ 27 = acc % 2 ^ 27 := by rw [Nat.xor_mod_two_pow, Nat.mod_self, Nat.xor_zero]
  have hhigh : (acc ^^^ 2 ^ 27) / 2 ^ 27 = acc / 2 ^ 27 ^^^ 1 := by rw [Nat.xor_div_two_pow, Nat.div_self (by decide)]
  have hbit : acc / 2 ^ 27 = 0 ∨ acc / 2 ^ 27 = 1 := by omega
  rcases hbit with hacc | hacc
  · rw [hacc, Nat.zero_xor] at hhigh
    omega
  · rw [hacc, Nat.xor_self] at hhigh
    omega

/-- Settles O31. -/
theorem triangleAndSawtoothShapes : Obligations.TriangleAndSawtoothShapes := by
  unfold Obligations.TriangleAndSawtoothShapes
  refine ⟨fun acc hacc => ?_, fun P w0 step hw0 => ?_, fun P x => ⟨selectWave_triangle P, fun h => ?_, fun h => ?_⟩⟩
  · have hplain : acc ^^^ 0 < 2 ^ 28 := by rwa [Nat.xor_zero]
    have hturn : (acc + 2 ^ 27) % 2 ^ 28 ^^^ 0 < 2 ^ 28 := by rw [Nat.xor_zero]; omega
    have hring : acc ^^^ 2 ^ 27 < 2 ^ 28 := Nat.xor_lt_two_pow hacc (by decide)
    refine ⟨fun hlow => ?_, fun hhigh => ?_, ?_, triangle_le hplain⟩
    · rw [triangle_eq hplain, Nat.xor_zero, if_neg (by omega)]
    · rw [triangle_eq hplain, Nat.xor_zero, if_pos hhigh]
    · rw [triangle_eq hring, triangle_eq hturn, Nat.xor_zero, xor_msb_eq_add hacc]
  · intro k y
    have hk : 1 ≤ k := le_max_left _ _
    have hsaw : saw P w0 step = if 0xFFFF < y then 0xFFFF - (y - 0x10000) * 2 ^ 16 / k else y := saw_eq P w0 step
    refine ⟨fun hy => ?_, fun hy => ?_, fun hslope => ?_⟩
    · rw [hsaw, if_neg (by omega)]
    · rw [hsaw, if_pos (by omega)]
      exact Nat.sub_add_cancel (saw_overshoot_le hk hw0)
    · have hone : k = 1 := max_eq_left hslope
      have hy : y = w0 := by
        change w0 + w0 * k / 2 ^ 16 = w0
        rw [hone]
        omega
      rw [hsaw, hy, if_neg (by omega)]
  · rw [selectWave_saw P (by rw [h]; rfl) (by rw [h]; rfl) (by rw [h]; rfl), sawWave, if_neg (by rw [h]; decide),
      Nat.shiftRight_eq_div_pow]
  · rw [selectWave_saw P (by rw [h]; rfl) (by rw [h]; rfl) (by rw [h]; rfl), sawWave, if_pos (by rw [h]; rfl),
      Nat.shiftRight_eq_div_pow]

theorem sawWave_w_le (P : SidParams) (x : WaveIn) : (sawWave P x).w ≤ 0xFFFF := by
  unfold sawWave
  split
  · exact toNat_le_ffff _
  · exact saw_le P _ _

@[simp] theorem sawWave_lfsr (P : SidParams) (x : WaveIn) : (sawWave P x).lfsr = x.lfsr := by
  unfold sawWave; split <;> rfl

@[simp] theorem sawWave_pblend (P : SidParams) (x : WaveIn) : (sawWave P x).pblend = x.pblend := by
  unfold sawWave; split <;> rfl

-- ---- every value (41 R156)

/-- A ring source is 0 or bit 27 (41 R154). -/
theorem xor_ringSource_lt {acc rsrc : Nat} (hacc : acc < 2 ^ 28) (hring : rsrc = 0 ∨ rsrc = 2 ^ 27) :
    acc ^^^ rsrc < 2 ^ 28 := by
  rcases hring with rfl | rfl
  · exact Nat.xor_lt_two_pow hacc (by decide)
  · exact Nat.xor_lt_two_pow hacc (by decide)

/-- Settles O30, branch by branch. -/
theorem waveformValueFitsIn16Bits : Obligations.WaveformValueFitsIn16Bits := by
  unfold Obligations.WaveformValueFitsIn16Bits
  intro P x hacc hpwav hpblend _ hring hwf
  rcases selectWave_cases P hwf with ⟨-, h⟩ | ⟨-, h⟩ | ⟨-, h⟩ | ⟨-, h⟩ | ⟨-, h⟩ <;> rw [h]
  · refine ⟨?_, hpblend⟩
    rw [noiseWave_w]
    split
    · exact Nat.zero_le _
    · exact noiseOut_le _
  · exact pulseWave_range P hpblend
  · exact ⟨sawWave_w_le P x, by rw [sawWave_pblend]; exact hpblend⟩
  · exact ⟨triangle_le (xor_ringSource_lt hacc hring), hpblend⟩
  · exact ⟨hpwav, hpblend⟩

/-- Without noise selected the LFSR stands still (41 R157). -/
theorem selectWave_lfsr_of_no_noise (P : SidParams) {x : WaveIn} (hwf : x.wf ≤ 15) (h3 : bit x.wf 3 = false) :
    (selectWave P x).lfsr = x.lfsr := by
  rcases selectWave_cases P hwf with ⟨h, -⟩ | ⟨-, h⟩ | ⟨-, h⟩ | ⟨-, h⟩ | ⟨-, h⟩
  · rw [h3] at h; cases h
  · rw [h, pulseWave_lfsr]
  · rw [h, sawWave_lfsr]
  · rw [h]
  · rw [h]

/-- The LFSR a waveform computation leaves, in the two cases of its clock (41 R157). -/
theorem selectWave_lfsr (P : SidParams) {x : WaveIn} (hwf : x.wf ≤ 15) :
    (bit x.wf 3 = true ∧ noiseClocked x.acc x.pacc x.step = true → (selectWave P x).lfsr = lfsrStep x.lfsr x.test)
    ∧ (¬(bit x.wf 3 = true ∧ noiseClocked x.acc x.pacc x.step = true) → (selectWave P x).lfsr = x.lfsr) := by
  refine ⟨fun ⟨h3, hclk⟩ => ?_, fun h => ?_⟩
  · rw [selectWave_noise P h3, noiseWave_lfsr_clocked hclk]
  · rcases Bool.eq_false_or_eq_true (bit x.wf 3) with h3 | h3
    · rw [selectWave_noise P h3, noiseWave_lfsr_still fun hclk => h ⟨h3, hclk⟩]
    · exact selectWave_lfsr_of_no_noise P hwf h3

theorem selectWave_lfsr_range (P : SidParams) {x : WaveIn} (hwf : x.wf ≤ 15) (hpos : 1 ≤ x.lfsr) (hlt : x.lfsr < 2 ^ 23) :
    1 ≤ (selectWave P x).lfsr ∧ (selectWave P x).lfsr < 2 ^ 23 := by
  obtain ⟨hstep, hstill⟩ := selectWave_lfsr P hwf
  by_cases h : bit x.wf 3 = true ∧ noiseClocked x.acc x.pacc x.step = true
  · rw [hstep h]
    exact lfsrStep_range hpos hlt x.test
  · rw [hstill h]
    exact ⟨hpos, hlt⟩

-- ---- the sub-step of one voice (41 R150)

section
variable (v : Ix3) (r : Rendering)

/-- What the sub-step of voice `v` computes. -/
def subOut : VoiceOut :=
  renderVoice r.st.params r.st.sid.cfg.model r.st.sid.cfg.clockRatio r.st.sid.reg v (voice r.st v) r.st.sid.syncRise
    r.st.sid.ringMSB

theorem voice_renderSub_same : voice (renderSub v r).st v = (subOut v r).voice := triGet_triSet_same _ _ _

theorem voice_renderSub_ne {u : Ix3} (h : u ≠ v) : voice (renderSub v r).st u = voice r.st u := triGet_triSet_ne _ _ _ _ h

theorem renderSub_syncRise : (renderSub v r).st.sid.syncRise = msbRise (waveOf v r.st).acc (voice r.st v).pacc := rfl

theorem renderSub_ringMSB : (renderSub v r).st.sid.ringMSB = msbInPlace (waveOf v r.st).acc := rfl

/-- The voice after its sub-step, field by field (41 R150, R155, R174). -/
theorem subOut_voice : (subOut v r).voice =
    { voice r.st v with
      acc := (waveOf v r.st).acc
      pacc := (waveOf v r.st).acc
      lfsr := (selectWave r.st.params (waveOf v r.st)).lfsr
      pblend := (selectWave r.st.params (waveOf v r.st)).pblend
      pwav := if (waveOf v r.st).wf = 0 then (voice r.st v).pwav else (selectWave r.st.params (waveOf v r.st)).w } := rfl

/-- The selector is a nibble (10_state R47). -/
theorem waveOf_wf_le (s : State) : (waveOf v s).wf ≤ 15 := by
  change regNat s.sid.reg (7 * num v + 4) / 16 % 16 ≤ 15
  omega

/-- Bit 3 of the selector is bit 7 of CONTROL (10_state R47). -/
theorem waveOf_wf_bit3 (s : State) : bit (waveOf v s).wf 3 = ctlBit s v 7 := by
  change (regNat s.sid.reg (7 * num v + 4) / 2 ^ 4 % 2 ^ 4).testBit 3 = (regNat s.sid.reg (7 * num v + 4)).testBit 7
  rw [Nat.testBit_mod_two_pow, Nat.testBit_div_two_pow]
  rfl

theorem waveOf_acc (s : State) : (waveOf v s).acc
    = nextAcc (voice s v).acc (stepOf s v) (ctlBit s v 3) (ctlBit s v 1) s.sid.syncRise := rfl

end

/-- Settles O27. -/
theorem accumulatorUpdateAndCoupling : Obligations.AccumulatorUpdateAndCoupling := by
  unfold Obligations.AccumulatorUpdateAndCoupling
  intro v r s t a
  have hacc : (waveOf v s).acc = a := by
    rw [waveOf_acc]
    by_cases hclear : ctlBit s v 3 = true ∨ (ctlBit s v 1 = true ∧ s.sid.syncRise = true)
    · exact (nextAcc_of_clear hclear).trans (if_pos hclear).symm
    · exact (nextAcc_of_not_clear hclear).trans (if_neg hclear).symm
  have hvoice : voice t v = (subOut v r).voice := voice_renderSub_same v r
  rw [hvoice, subOut_voice]
  refine ⟨hacc, hacc, ?_, ?_, fun u hu => voice_renderSub_ne v r hu⟩
  · rw [renderSub_syncRise, hacc]
    rfl
  · rw [renderSub_ringMSB, hacc, msbInPlace, bitNat_mul]
    rfl

/-- Settles O28. -/
theorem noiseLfsrIsClockedByBit24 : Obligations.NoiseLfsrIsClockedByBit24 := by
  unfold Obligations.NoiseLfsrIsClockedByBit24
  intro v r s t l clocked
  have hvoice : voice t v = (subOut v r).voice := voice_renderSub_same v r
  obtain ⟨hstep, hstill⟩ := selectWave_lfsr s.params (waveOf_wf_le v s)
  rw [waveOf_wf_bit3, noiseClocked_iff] at hstep hstill
  simp only [clocked, hvoice, subOut_voice]
  exact ⟨fun h => (hstep h).trans (lfsrStep_eq _ _), hstill⟩

/-- Settles O32: the inputs by computation, the value from the selected waveform, and selector 0 from the branch that holds. -/
theorem floatingOutputHoldsTheLastWaveform : Obligations.FloatingOutputHoldsTheLastWaveform := by
  unfold Obligations.FloatingOutputHoldsTheLastWaveform
  intro v r s o ctl x
  have hvoice : voice o.st v = (subOut v r).voice := voice_renderSub_same v r
  simp only [hvoice, subOut_voice]
  refine ⟨⟨rfl, rfl, rfl, rfl, rfl, rfl, rfl, rfl, rfl, rfl, rfl, rfl⟩, ⟨rfl, rfl, rfl⟩, fun h => ?_, fun h => if_neg h⟩
  refine ⟨?_, if_pos h, fun htest hsync => ?_⟩
  · change (selectWave s.params x).w = _
    rw [selectWave_hold s.params h]
    rfl
  · rw [waveOf_acc]
    exact nextAcc_of_not_clear (by rw [htest, hsync]; simp)

-- ---- the ranges of the waveform fields (10_state R27 to R31, 41 R176)

theorem nextAcc_lt (acc step : Nat) (test sync rise : Bool) : nextAcc acc step test sync rise < 2 ^ 28 := by
  unfold nextAcc
  split
  · decide
  · exact Nat.mod_lt _ (by decide)

theorem msbInPlace_cases (acc : Nat) : msbInPlace acc = 0 ∨ msbInPlace acc = 2 ^ 27 := by
  rw [msbInPlace, bitNat_mul]
  split
  · exact .inr rfl
  · exact .inl rfl

/-- The waveform of a voice in range, with the ring source in range, is in range. -/
theorem selectWave_waveOf_range (v : Ix3) {s : State} (hV : WaveOk (voice s v))
    (hring : s.sid.ringMSB = 0 ∨ s.sid.ringMSB = 2 ^ 27) :
    (selectWave s.params (waveOf v s)).w ≤ 0xFFFF ∧ (selectWave s.params (waveOf v s)).pblend ≤ 0xFFFF := by
  obtain ⟨-, -, -, -, hpwav, hpblend⟩ := hV
  have hsource : (waveOf v s).rsrc = 0 ∨ (waveOf v s).rsrc = 2 ^ 27 := by
    change (if _ then s.sid.ringMSB else 0) = 0 ∨ (if _ then s.sid.ringMSB else 0) = 2 ^ 27
    split
    · exact hring
    · exact .inl rfl
  exact waveformValueFitsIn16Bits s.params (waveOf v s) (nextAcc_lt _ _ _ _ _) hpwav hpblend
    (Nat.le_of_lt_succ (regNat_lt _ _)) hsource (waveOf_wf_le v s)

/-- A voice's sub-step keeps the ranges of its waveform fields. -/
theorem waveOk_subOut (v : Ix3) {r : Rendering} (hV : WaveOk (voice r.st v))
    (hring : r.st.sid.ringMSB = 0 ∨ r.st.sid.ringMSB = 2 ^ 27) : WaveOk (subOut v r).voice := by
  obtain ⟨hw, hblend⟩ := selectWave_waveOf_range v hV hring
  obtain ⟨-, -, hpos, hlt, hpwav, -⟩ := hV
  obtain ⟨hpos', hlt'⟩ := selectWave_lfsr_range r.st.params (waveOf_wf_le v r.st) hpos hlt
  rw [subOut_voice]
  refine ⟨nextAcc_lt _ _ _ _ _, nextAcc_lt _ _ _ _ _, hpos', hlt', ?_, hblend⟩
  dsimp only
  split
  · exact hpwav
  · exact hw

end Sys2Proof.Proofs

/-! PROOFS. SID_RENDER (42 R200 to R215): routing, taps and output, what a render that goes on leaves, what it does not
touch, and that bits no rule reads do not reach it. -/

namespace Sys2Proof.Proofs

open Sys2Proof.Machine Sys2Proof.Claims Sys2Proof.Laws

-- ---- routing (42 R201 to R203)

section
variable {m : Bank} {v : Ix3}

/-- Where 3OFF does not apply, the routing bit alone decides. -/
theorem route_kept (h : v ≠ .i2 ∨ voice3Off m = false) (scope : Off3Scope) (c : Int) (x : Mix) : route scope m v c x
    = if filterEnabled m v then { x with filtIn := x.filtIn + c } else { x with unfilt := x.unfilt + c } := by
  have hoff : (decide (v = .i2) && voice3Off m) = false := by
    rcases h with h | h
    · rw [decide_eq_false h, Bool.false_and]
    · rw [h, Bool.and_false]
  simp only [route, hoff, Bool.false_and, Bool.false_eq_true, if_false]

/-- Where it does, the unfiltered sum loses the voice, and the filtered sum does under the full scope. -/
theorem route_off (h : voice3Off m = true) (scope : Off3Scope) (c : Int) (x : Mix) : route scope m .i2 c x
    = if filterEnabled m .i2 = true ∧ scope ≠ .full then { x with filtIn := x.filtIn + c } else x := by
  cases scope <;> cases hfilt : filterEnabled m .i2 <;> simp [route, h, hfilt]

end

theorem contribution_eq (w dac : Nat) : contribution w dac = ((w : Int) - 0x8000) * dac / 256 := rfl

theorem renderSub_mix (v : Ix3) (r : Rendering) : (renderSub v r).mix
    = route r.st.params.off3Scope r.st.sid.reg v
      (contribution (renderSub v r).w (envDac r.st.sid.cfg.model (voice r.st v).env)) r.mix := rfl

/-- Settles O35. -/
theorem routingByFilterBitAnd3Off : Obligations.RoutingByFilterBitAnd3Off := by
  unfold Obligations.RoutingByFilterBitAnd3Off
  refine ⟨fun m v c x => ?_, fun v r => ?_⟩
  · intro filt off
    refine ⟨fun h scope => ?_, fun hv hoff => ?_, fun w dac => ⟨contribution_eq w dac, rfl⟩⟩
    · rw [route_kept h]
      exact ⟨fun hfilt => if_pos hfilt, fun hfilt => if_neg (by exact ne_true_of_eq_false hfilt)⟩
    · subst hv
      rw [route_off hoff, route_off hoff]
      exact ⟨if_neg fun h => h.2 rfl, fun hfilt => if_pos ⟨hfilt, by decide⟩,
        fun hfilt => if_neg fun h => ne_true_of_eq_false hfilt h.1⟩
  · intro s e
    have hdac : envDac s.sid.cfg.model (voice s v).env = e := by
      simp only [e]
      cases s.sid.cfg.model <;> rfl
    rw [renderSub_mix, contribution_eq, ← hdac]

-- ---- the filter (42 R205 to R210)

theorem integrate_eq (filtIn pBP pLP cut res : Int) : integrate filtIn pBP pLP cut res
    = ⟨filtIn + pBP * res / 4096 + pLP, pBP - (filtIn + pBP * res / 4096 + pLP) * cut / 4096,
        pLP + (pBP - (filtIn + pBP * res / 4096 + pLP) * cut / 4096) * cut / 4096⟩ := by
  simp only [integrate, timesEntry_eq]
  rfl

/-- The feedback's clamp (42 R207). -/
theorem clamp_cutoff (x : Int) : clamp x 0 2047 = max 0 (min 2047 x) := by
  unfold clamp
  omega

/-- Settles O36. -/
theorem filterTapsFollowTheIntegrators : Obligations.FilterTapsFollowTheIntegrators := by
  unfold Obligations.FilterTapsFollowTheIntegrators
  refine ⟨integrate_eq, fun m t => rfl, fun r => ?_⟩
  intro c fc cut
  have hcut : cutCoeff r.st.params c.cfg.model (cutoff c.reg) r.mix.filtIn = cut := by
    rw [cutoff_eq]
    simp only [cut]
    unfold cutCoeff
    cases c.cfg.model
    · rw [clamp_cutoff]
      rfl
    · rfl
  change integrate _ _ _ (cutCoeff r.st.params c.cfg.model (cutoff c.reg) r.mix.filtIn) _ = _
  rw [hcut]
  rfl

theorem volume_eq (m : Bank) : volume m = regNat m 0x18 % 16 := slice_zero _ 3

theorem renderOut_eq (r : Rendering) : renderOut r
    = Int.tdiv ((r.mix.unfilt + filterOut r.st.sid.reg (renderTaps r)) * ((regNat r.st.sid.reg 0x18 % 16 : Nat) : Int))
      ((r.st.params.channelCount : Int) * 15 + r.st.sid.cfg.attenuation) := by
  rw [← volume_eq]
  rfl

-- ---- what a render answers (42 R212, R213)

/-- The three values a render checks are in 32 bits. -/
structure RenderInRange (r : Rendering) : Prop where
  bp : inInt32 (renderTaps r).bp = true
  lp : inInt32 (renderTaps r).lp = true
  out : inInt32 (renderOut r) = true

/-- What a render that goes on leaves, from its voice sub-steps. -/
def rendered (r : Rendering) : State :=
  returnOutput (.sample (renderOut r)) (storeReadBacks r.w (storeTaps (renderTaps r) r.st))

section
variable {r : Rendering}

theorem filterSub_bp_fault (h : inInt32 (renderTaps r).bp = false) : filterSub r = .fault (.numericRange .pBP r.st) := by
  simp only [filterSub, h, if_true, raiseNumericRange]

theorem filterSub_lp_fault (hbp : inInt32 (renderTaps r).bp = true) (h : inInt32 (renderTaps r).lp = false) :
    filterSub r = .fault (.numericRange .pLP r.st) := by
  simp only [filterSub, hbp, h, Bool.true_eq_false, if_true, if_false, raiseNumericRange]

theorem filterSub_out_fault (hbp : inInt32 (renderTaps r).bp = true) (hlp : inInt32 (renderTaps r).lp = true)
    (h : inInt32 (renderOut r) = false) :
    filterSub r = .fault (.numericRange .out (storeTaps (renderTaps r) r.st)) := by
  simp only [filterSub, hbp, hlp, h, Bool.true_eq_false, if_true, if_false, raiseNumericRange]

theorem filterSub_of_inRange (h : RenderInRange r) : filterSub r = .next (rendered r) := by
  simp only [filterSub, h.bp, h.lp, h.out, Bool.true_eq_false, if_false]
  rfl

theorem filterSub_eq_next_iff {t : State} : filterSub r = .next t ↔ RenderInRange r ∧ t = rendered r := by
  refine ⟨fun h => ?_, fun ⟨hin, ht⟩ => ht ▸ filterSub_of_inRange hin⟩
  rcases filterSub_cases r with ⟨-, hf⟩ | ⟨-, -, hf⟩ | ⟨-, -, -, hf⟩ | ⟨hbp, hlp, hout, hf⟩ <;> rw [hf] at h <;> cases h
  exact ⟨⟨hbp, hlp, hout⟩, rfl⟩

end

theorem exec_sidRender (s : State) : exec .sidRender s = filterSub (renderVoices s) := rfl

theorem exec_sidRender_eq_next_iff {s t : State} :
    exec .sidRender s = .next t ↔ RenderInRange (renderVoices s) ∧ t = rendered (renderVoices s) :=
  filterSub_eq_next_iff

/-- A render before its first voice sub-step. -/
abbrev renderStart (s : State) : Rendering := ⟨s, ⟨0, 0⟩, 0⟩

/-- Without arrivals the voice sub-steps follow each other directly (42 R212). -/
theorem renderVoices_none {s : State} (h : s.arrivals = []) :
    renderVoices s = renderSub .i2 (renderSub .i1 (renderSub .i0 (renderStart s))) := by
  unfold renderVoices
  rw [renderPoint_none (renderSub .i0 _) (by exact h), renderPoint_none (renderSub .i1 _) (by exact h),
    renderPoint_none (renderSub .i2 _) (by exact h)]

/-- Settles O37. -/
theorem renderCompletesWhenInRange : Obligations.RenderCompletesWhenInRange := by
  unfold Obligations.RenderCompletesWhenInRange
  refine ⟨renderOut_eq, fun s => ?_⟩
  intro r hbp hlp hout
  rw [exec_sidRender, filterSub_of_inRange ⟨hbp, hlp, hout⟩, ← Nat.shiftRight_eq_div_pow r.w 8]
  rfl

/-- Settles O38: the sub-steps write neither the integrators nor the bank. -/
theorem renderFaultLeavesTheStateOfTheRule : Obligations.RenderFaultLeavesTheStateOfTheRule := by
  unfold Obligations.RenderFaultLeavesTheStateOfTheRule
  intro s harr r
  have hr : r = renderSub .i2 (renderSub .i1 (renderSub .i0 (renderStart s))) := renderVoices_none harr
  exact ⟨filterSub_bp_fault, filterSub_lp_fault, filterSub_out_fault, by rw [hr]; rfl, by rw [hr]; rfl, by rw [hr]; rfl⟩

-- ---- the envelope fields (10_state R22 to R26)

/-- A render leaves the envelope fields (42 R212, State written). -/
structure SameEnvelope (V W : Voice) : Prop where
  gate : W.gate = V.gate
  atk : W.atk = V.atk
  ds : W.ds = V.ds
  holdn : W.holdn = V.holdn
  rc : W.rc = V.rc
  env : W.env = V.env
  exp : W.exp = V.exp

theorem SameEnvelope.refl (V : Voice) : SameEnvelope V V := ⟨rfl, rfl, rfl, rfl, rfl, rfl, rfl⟩

theorem SameEnvelope.trans {U V W : Voice} (h : SameEnvelope U V) (k : SameEnvelope V W) : SameEnvelope U W :=
  ⟨k.gate.trans h.gate, k.atk.trans h.atk, k.ds.trans h.ds, k.holdn.trans h.holdn, k.rc.trans h.rc, k.env.trans h.env,
    k.exp.trans h.exp⟩

theorem renderSub_sameEnvelope (v u : Ix3) (r : Rendering) : SameEnvelope (voice r.st u) (voice (renderSub v r).st u) := by
  by_cases h : u = v
  · subst h
    rw [voice_renderSub_same]
    exact ⟨rfl, rfl, rfl, rfl, rfl, rfl, rfl⟩
  · rw [voice_renderSub_ne v r h]
    exact .refl _

theorem renderPoint_sameEnvelope (u : Ix3) (r : Rendering) : SameEnvelope (voice r.st u) (voice (renderPoint r).st u) := by
  rw [renderPoint_st, voice_hostPoint]
  exact .refl _

/-- One voice sub-step with the interleaving point after it. -/
theorem renderPoint_renderSub_sameEnvelope (v u : Ix3) (r : Rendering) :
    SameEnvelope (voice r.st u) (voice (renderPoint (renderSub v r)).st u) :=
  (renderSub_sameEnvelope v u r).trans (renderPoint_sameEnvelope u _)

theorem renderVoices_sameEnvelope (u : Ix3) (s : State) : SameEnvelope (voice s u) (voice (renderVoices s).st u) :=
  ((renderPoint_renderSub_sameEnvelope .i0 u (renderStart s)).trans (renderPoint_renderSub_sameEnvelope .i1 u _)).trans
    (renderPoint_renderSub_sameEnvelope .i2 u _)

-- ---- the bank (42 R211)

theorem rendered_reg (r : Rendering) : (rendered r).sid.reg
    = writeBank (writeBank r.st.sid.reg 0x1B (BitVec.ofNat 8 (r.w >>> 8))) 0x1C
      (BitVec.ofNat 8 r.st.sid.voices.a2.env) := rfl

theorem readReg_rendered_ne (r : Rendering) {a : Nat} (hosc : a ≠ 0x1B) (henv : a ≠ 0x1C) :
    readReg (rendered r) a = readReg r.st a := by
  change readBank (rendered r).sid.reg a = _
  rw [rendered_reg, readBank_writeBank_ne _ _ _ _ henv, readBank_writeBank_ne _ _ _ _ hosc]
  rfl

theorem bankWf_renderVoices {s : State} (h : bankWf s.sid.reg = true) : bankWf (renderVoices s).st.sid.reg = true :=
  bankWf_hostPoint _ (bankWf_hostPoint _ (bankWf_hostPoint (renderSub .i0 (renderStart s)).st h))

/-- Settles O40. -/
theorem readBacksSampleVoiceTwo : Obligations.ReadBacksSampleVoiceTwo := by
  unfold Obligations.ReadBacksSampleVoiceTwo
  intro s t hwf h
  obtain ⟨-, rfl⟩ := exec_sidRender_eq_next_iff.mp h
  have hbank := bankWf_renderVoices hwf
  have henv : (renderVoices s).st.sid.voices.a2.env = (voice s .i2).env := (renderVoices_sameEnvelope .i2 s).env
  refine ⟨?_, ?_, rfl⟩
  · change readBank (rendered (renderVoices s)).sid.reg 0x1B = _
    rw [rendered_reg, readBank_writeBank_ne _ _ _ _ (by decide), readBank_writeBank_same _ _ _ 0 hbank,
      Nat.shiftRight_eq_div_pow]
  · change readBank (rendered (renderVoices s)).sid.reg 0x1C = _
    rw [rendered_reg, readBank_writeBank_same _ _ _ 0 (bankWfFrom_writeBank _ _ _ (by decide) 0 (by decide) hbank), henv]

/-- Settles O41: a render writes voices, taps, read-backs and its result. -/
theorem renderLeavesTheRestUnchanged : Obligations.RenderLeavesTheRestUnchanged := by
  unfold Obligations.RenderLeavesTheRestUnchanged
  intro s t harr h
  obtain ⟨-, rfl⟩ := exec_sidRender_eq_next_iff.mp h
  have hr := renderVoices_none harr
  refine ⟨fun v => ?_, fun a hosc henv => ?_, ?_⟩
  · obtain ⟨hgate, hatk, hds, hholdn, hrc, henv, hexp⟩ := renderVoices_sameEnvelope v s
    exact ⟨hgate, hatk, hds, hholdn, hrc, henv, hexp⟩
  · rw [readReg_rendered_ne _ hosc henv, hr]
    rfl
  · rw [hr]
    exact ⟨rfl, rfl, rfl, rfl, rfl, rfl, harr, _, rfl⟩

-- ---- a filter with nothing routed to it (42 R214)

/-- No voice is routed to the filter and no tap is enabled. -/
structure PassesThrough (m : Bank) : Prop where
  routed : ∀ v, filterEnabled m v = false
  highpass : highpassOn m = false
  bandpass : bandpassOn m = false
  lowpass : lowpassOn m = false

theorem filterOut_of_passesThrough {m : Bank} (h : PassesThrough m) (t : Taps) : filterOut m t = 0 := by
  simp only [filterOut, h.highpass, h.bandpass, h.lowpass, Bool.false_eq_true, if_false, add_zero]

/-- A voice that is not routed reaches at most the unfiltered sum. -/
theorem route_of_not_enabled {m : Bank} {v : Ix3} (h : filterEnabled m v = false) (scope : Off3Scope) (c : Int) (x : Mix) :
    route scope m v c x = x ∨ route scope m v c x = { x with unfilt := x.unfilt + c } := by
  simp only [route, h, Bool.false_eq_true, if_false]
  split
  · exact .inl rfl
  · exact .inr rfl

theorem renderSub_filtIn {v : Ix3} {r : Rendering} (h : filterEnabled r.st.sid.reg v = false) :
    (renderSub v r).mix.filtIn = r.mix.filtIn := by
  rw [renderSub_mix]
  rcases route_of_not_enabled h r.st.params.off3Scope _ r.mix with hmix | hmix <;> rw [hmix]

theorem envDac_le (model : ChipModel) {level : Nat} (h : level ≤ 255) : envDac model level ≤ 255 := by
  cases model
  · exact Nat.le_of_lt_succ (Config.envDac6581 level).isLt
  · exact h

/-- A 16-bit waveform times an 8-bit envelope (42 R201). -/
theorem contribution_range {w dac : Nat} (hw : w ≤ 0xFFFF) (hdac : dac ≤ 255) :
    -32640 ≤ contribution w dac ∧ contribution w dac ≤ 32640 := by
  have hlo : -32768 * (dac : Int) ≤ ((w : Int) - 0x8000) * dac := mul_le_mul_of_nonneg_right (by omega) (by omega)
  have hhi : ((w : Int) - 0x8000) * dac ≤ 32768 * (dac : Int) := mul_le_mul_of_nonneg_right (by omega) (by omega)
  rw [contribution_eq]
  omega

/-- What the waveform generators of a machine keep between sub-steps (10_state R27 to R31). -/
structure ChainOk (s : State) : Prop where
  wave : ∀ v, WaveOk (voice s v)
  ring : s.sid.ringMSB = 0 ∨ s.sid.ringMSB = 2 ^ 27

theorem ChainOk.renderSub {r : Rendering} (h : ChainOk r.st) (v : Ix3) : ChainOk (renderSub v r).st := by
  refine ⟨fun u => ?_, msbInPlace_cases _⟩
  by_cases hu : u = v
  · subst hu
    rw [voice_renderSub_same]
    exact waveOk_subOut u (h.wave u) h.ring
  · rw [voice_renderSub_ne v r hu]
    exact h.wave u

theorem ChainOk.hostPoint {s : State} (h : ChainOk s) : ChainOk (hostPoint s) := by
  refine ⟨fun v => ?_, ?_⟩
  · rw [voice_hostPoint]
    exact h.wave v
  · rw [(hostPoint_frame s).ringMSB]
    exact h.ring

theorem ChainOk.renderVoices {s : State} (h : ChainOk s) : ChainOk (renderVoices s).st := by
  have h0 := (ChainOk.renderSub (r := renderStart s) h .i0).hostPoint
  have h1 := (ChainOk.renderSub (r := renderPoint _) h0 .i1).hostPoint
  exact (ChainOk.renderSub (r := renderPoint _) h1 .i2).hostPoint

/-- A voice in range moves the unfiltered sum by one contribution at most. -/
theorem renderSub_unfilt {v : Ix3} {r : Rendering} (hfilt : filterEnabled r.st.sid.reg v = false) (h : ChainOk r.st)
    (henv : (voice r.st v).env ≤ 255) : r.mix.unfilt - 32640 ≤ (renderSub v r).mix.unfilt
      ∧ (renderSub v r).mix.unfilt ≤ r.mix.unfilt + 32640 := by
  have hw : (renderSub v r).w ≤ 0xFFFF := (selectWave_waveOf_range v (h.wave v) h.ring).1
  obtain ⟨hlo, hhi⟩ := contribution_range hw (envDac_le r.st.sid.cfg.model henv)
  rw [renderSub_mix]
  rcases route_of_not_enabled hfilt r.st.params.off3Scope _ r.mix with hmix | hmix <;> rw [hmix]
  · omega
  · dsimp only
    omega

section
variable {s : State} (harr : s.arrivals = [])
include harr

theorem renderVoices_reg : (renderVoices s).st.sid.reg = s.sid.reg := by
  rw [renderVoices_none harr]
  rfl

/-- With no voice routed the filter gets nothing. -/
theorem renderVoices_filtIn (hpass : PassesThrough s.sid.reg) : (renderVoices s).mix.filtIn = 0 := by
  rw [renderVoices_none harr]
  calc (renderSub .i2 (renderSub .i1 (renderSub .i0 (renderStart s)))).mix.filtIn
    _ = (renderSub .i1 (renderSub .i0 (renderStart s))).mix.filtIn := renderSub_filtIn (hpass.routed .i2)
    _ = (renderSub .i0 (renderStart s)).mix.filtIn := renderSub_filtIn (hpass.routed .i1)
    _ = 0 := renderSub_filtIn (r := renderStart s) (hpass.routed .i0)

/-- Three contributions of a voice in range (42 R201). -/
theorem renderVoices_unfilt_range (hpass : PassesThrough s.sid.reg) (hchain : ChainOk s)
    (henv : ∀ v, (voice s v).env ≤ 255) :
    -97920 ≤ (renderVoices s).mix.unfilt ∧ (renderVoices s).mix.unfilt ≤ 97920 := by
  have hchain1 : ChainOk (renderSub .i0 (renderStart s)).st := ChainOk.renderSub (r := renderStart s) hchain .i0
  have hlevel1 : (voice (renderSub .i0 (renderStart s)).st .i1).env ≤ 255 :=
    (renderSub_sameEnvelope .i0 .i1 (renderStart s)).env.trans_le (henv .i1)
  have hlevel2 : (voice (renderSub .i1 (renderSub .i0 (renderStart s))).st .i2).env ≤ 255 :=
    ((renderSub_sameEnvelope .i0 .i2 (renderStart s)).trans (renderSub_sameEnvelope .i1 .i2 _)).env.trans_le (henv .i2)
  have h0 := renderSub_unfilt (v := .i0) (r := renderStart s) (hpass.routed .i0) hchain (henv .i0)
  have h1 := renderSub_unfilt (v := .i1) (r := renderSub .i0 (renderStart s)) (hpass.routed .i1) hchain1 hlevel1
  have h2 := renderSub_unfilt (v := .i2) (r := renderSub .i1 (renderSub .i0 (renderStart s))) (hpass.routed .i2)
    (hchain1.renderSub .i1) hlevel2
  rw [renderVoices_none harr]
  dsimp only at h0
  omega

/-- With nothing routed to it, a filter at rest stays at rest (42 R208). -/
theorem renderTaps_of_rest (hpass : PassesThrough s.sid.reg) (hbp : s.sid.pBP = 0) (hlp : s.sid.pLP = 0) :
    renderTaps (renderVoices s) = ⟨0, 0, 0⟩ := by
  have hfilt := renderVoices_filtIn harr hpass
  have hbp' : (renderVoices s).st.sid.pBP = 0 := by rw [renderVoices_none harr]; exact hbp
  have hlp' : (renderVoices s).st.sid.pLP = 0 := by rw [renderVoices_none harr]; exact hlp
  simp [renderTaps, integrate_eq, hfilt, hbp', hlp']

end

/-- A sum in range times a volume nibble. -/
theorem mul_volume_range {x : Int} (hlo : -97920 ≤ x) (hhi : x ≤ 97920) (n : Nat) :
    -1468800 ≤ x * ((n % 16 : Nat) : Int) ∧ x * ((n % 16 : Nat) : Int) ≤ 1468800 := by
  have hpos : (0 : Int) ≤ ((n % 16 : Nat) : Int) := Int.natCast_nonneg _
  have hmin : -97920 * ((n % 16 : Nat) : Int) ≤ x * ((n % 16 : Nat) : Int) := mul_le_mul_of_nonneg_right hlo hpos
  have hmax : x * ((n % 16 : Nat) : Int) ≤ 97920 * ((n % 16 : Nat) : Int) := mul_le_mul_of_nonneg_right hhi hpos
  omega

/-- The truncated quotient is no farther from 0 than its dividend. -/
theorem tdiv_range {x d b : Int} (hlo : -b ≤ x) (hhi : x ≤ b) : -b ≤ Int.tdiv x d ∧ Int.tdiv x d ≤ b := by
  have habs : (Int.tdiv x d).natAbs ≤ x.natAbs := Int.natAbs_tdiv_le_natAbs x d
  omega

/-- Settles O39: the filtered sum and a quiet filter's taps are 0, so that the sample is that of the unfiltered sum. -/
theorem filterPassThrough : Obligations.FilterPassThrough := by
  unfold Obligations.FilterPassThrough
  intro s harr hrouted htaps sample
  have hpass : PassesThrough s.sid.reg :=
    ⟨hrouted, htaps 6 (by decide) (by decide), htaps 5 (by decide) (by decide), htaps 4 (by decide) (by decide)⟩
  have hr := renderVoices_none harr
  have hsample : renderOut (renderVoices s) = sample := by
    rw [renderOut_eq, renderVoices_reg harr, filterOut_of_passesThrough hpass, add_zero]
    simp only [sample, hr, renderSub_params, renderSub_sid_cfg]
  refine ⟨fun t h => ?_, fun hbp hlp hwave henv hchip _ => ?_⟩
  · obtain ⟨-, rfl⟩ := exec_sidRender_eq_next_iff.mp h
    change .sample (renderOut (renderVoices s)) :: (renderVoices s).st.outputs = _
    rw [hsample, hr]
    rfl
  · obtain ⟨hwave0, hwave1, hwave2⟩ := hwave
    obtain ⟨hring, -⟩ := hchip
    have hchain : ChainOk s := ⟨fun v => by cases v <;> assumption, hring⟩
    have htaps := renderTaps_of_rest harr hpass hbp hlp
    have hout : inInt32 (renderOut (renderVoices s)) = true := by
      obtain ⟨hlo, hhi⟩ := renderVoices_unfilt_range harr hpass hchain henv
      obtain ⟨hmin, hmax⟩ := mul_volume_range hlo hhi (regNat s.sid.reg 0x18)
      obtain ⟨hlo', hhi'⟩ := tdiv_range (d := (s.params.channelCount : Int) * 15 + s.sid.cfg.attenuation) hmin hmax
      rw [hsample, inInt32_iff]
      exact ⟨le_trans (by decide) hlo', le_trans hhi' (by decide)⟩
    have hin : RenderInRange (renderVoices s) := ⟨by rw [htaps]; rfl, by rw [htaps]; rfl, hout⟩
    exact ⟨rendered (renderVoices s), filterSub_of_inRange hin, congrArg Taps.bp htaps, congrArg Taps.lp htaps⟩

-- ---- bits no rule reads (30_encoding R88, 10_state R54, R55)

/-- The bits of an offset that the engine reads. -/
def readMask (a : Nat) : Byte :=
  if a = 0x03 ∨ a = 0x0A ∨ a = 0x11 then 0x0F#8
  else if a = 0x15 then 0x07#8
  else if a = 0x17 then 0xF7#8
  else if a ≤ 0x18 then 0xFF#8 else 0x00#8

/-- Two banks agree in every bit the engine reads. -/
def SameReads (m n : Bank) : Prop := ∀ a, readBank m a &&& readMask a = readBank n a &&& readMask a

/-- The bits `UnreadBits` leaves free are those outside the mask. -/
theorem and_readMask_of_unreadBits {a : Nat} {d e : Byte} (h : UnreadBits a d e) : d &&& readMask a = e &&& readMask a := by
  rcases h with ⟨hlo, hhi⟩ | ⟨ha, hbits⟩ | ⟨rfl, hbits⟩ | ⟨rfl, hbits⟩
  · have hmask : readMask a = 0x00#8 := by
      unfold readMask
      rw [if_neg (by omega), if_neg (by omega), if_neg (by omega), if_neg (by omega)]
    rw [hmask, BitVec.and_zero, BitVec.and_zero]
  · have hmask : readMask a = 0x0F#8 := if_pos ha
    rw [hmask]
    exact hbits
  · exact hbits
  · exact hbits

theorem sameReads_writeBank {m : Bank} (hwf : bankWf m = true) {a : Nat} {d e : Byte}
    (h : d &&& readMask a = e &&& readMask a) : SameReads (writeBank m a d) (writeBank m a e) := by
  intro x
  by_cases hx : x = a
  · subst hx
    rw [readBank_writeBank_same m x d 0 hwf, readBank_writeBank_same m x e 0 hwf]
    exact h
  · rw [readBank_writeBank_ne m a x d hx, readBank_writeBank_ne m a x e hx]

/-- A store at an offset no rule reads changes nothing that is read. -/
theorem sameReads_writeBank_self (m : Bank) {a : Nat} (d : Byte) (h : readMask a = 0x00#8) :
    SameReads m (writeBank m a d) := by
  intro x
  by_cases hx : x = a
  · subst hx
    rw [h, BitVec.and_zero, BitVec.and_zero]
  · rw [readBank_writeBank_ne m a x d hx]

section
variable {m n : Bank} (h : SameReads m n)
include h

theorem SameReads.regNat {a : Nat} (hmask : readMask a = 0xFF#8) : regNat m a = regNat n a := by
  have ha := h a
  have hall : (0xFF#8 : Byte) = BitVec.allOnes 8 := by decide
  rw [hmask, hall, BitVec.and_allOnes, BitVec.and_allOnes] at ha
  exact congrArg BitVec.toNat ha

theorem SameReads.freqReg (v : Ix3) : freqReg m v = freqReg n v := by
  unfold Machine.freqReg
  rw [h.regNat (by cases v <;> rfl), h.regNat (by cases v <;> rfl)]

theorem SameReads.freqHi (v : Ix3) : freqHi m v = freqHi n v := h.regNat (by cases v <;> rfl)

theorem SameReads.controlReg (v : Ix3) : controlReg m v = controlReg n v := h.regNat (by cases v <;> rfl)

theorem SameReads.pwReg (v : Ix3) : pwReg m v = pwReg n v := by
  have hmask : readMask (7 * num v + 3) = 0x0F#8 := by cases v <;> rfl
  have hhigh := congrArg (fun b : Byte => b.toNat % 16) (h (7 * num v + 3))
  simp only [hmask, and_low4_mod] at hhigh
  rw [pwReg_eq, pwReg_eq, h.regNat (a := 7 * num v + 2) (by cases v <;> rfl)]
  exact congrArg (· * 256 + _) hhigh

theorem SameReads.cutoff : cutoff m = cutoff n := by
  have hlow := congrArg (fun b : Byte => b.toNat % 8) (h 0x15)
  have hmask : readMask 0x15 = 0x07#8 := rfl
  simp only [hmask, and_low3_mod] at hlow
  rw [cutoff_eq, cutoff_eq, h.regNat (a := 0x16) rfl]
  exact congrArg (_ + ·) hlow

theorem SameReads.resonanceNibble : resonanceNibble m = resonanceNibble n := by
  have hkeep : ∀ b : Byte, slice (b &&& 0xF7#8).toNat 7 4 = slice b.toNat 7 4 := by decide
  have hres := congrArg (fun b : Byte => slice b.toNat 7 4) (h 0x17)
  have hmask : readMask 0x17 = 0xF7#8 := rfl
  simp only [hmask, hkeep] at hres
  exact hres

theorem SameReads.filterEnabled (v : Ix3) : filterEnabled m v = filterEnabled n v := by
  have hkeep : ∀ b : Byte, bit (b &&& 0xF7#8).toNat (num v) = bit b.toNat (num v) := by cases v <;> decide
  have hbit := congrArg (fun b : Byte => bit b.toNat (num v)) (h 0x17)
  have hmask : readMask 0x17 = 0xF7#8 := rfl
  simp only [hmask, hkeep] at hbit
  exact hbit

theorem SameReads.waveIn (model : ChipModel) (ratio : Nat) (v : Ix3) (V : Voice) (rise : Bool) (msb : Nat) :
    waveIn model ratio m v V rise msb = waveIn model ratio n v V rise msb := by
  unfold Machine.waveIn
  rw [h.controlReg, h.freqReg, h.pwReg, h.freqHi]

theorem SameReads.route (scope : Off3Scope) (v : Ix3) (c : Int) (x : Mix) : route scope m v c x = route scope n v c x := by
  unfold Machine.route voice3Off
  rw [h.filterEnabled, h.regNat (a := 0x18) rfl]

theorem SameReads.filterOut (t : Taps) : filterOut m t = filterOut n t := by
  unfold Machine.filterOut highpassOn bandpassOn lowpassOn
  rw [h.regNat (a := 0x18) rfl]

end

/-- The machine with another register bank. -/
def withReg (m : Bank) (s : State) : State := { s with sid := { s.sid with reg := m } }

/-- A render under way with another register bank. -/
def Rendering.withReg (m : Bank) (r : Rendering) : Rendering := { r with st := Proofs.withReg m r.st }

section
variable {m : Bank} {r : Rendering} (h : SameReads r.st.sid.reg m)
include h

/-- A voice sub-step does the same under a bank that agrees in what is read. -/
theorem renderSub_withReg (v : Ix3) : renderSub v (Rendering.withReg m r) = Rendering.withReg m (renderSub v r) := by
  have hwave : ∀ V rise msb, renderVoice r.st.params r.st.sid.cfg.model r.st.sid.cfg.clockRatio m v V rise msb
      = renderVoice r.st.params r.st.sid.cfg.model r.st.sid.cfg.clockRatio r.st.sid.reg v V rise msb := by
    intro V rise msb
    unfold renderVoice
    rw [h.waveIn]
  simp only [renderSub, Rendering.withReg, withReg, hwave, ← h.route]

theorem renderTaps_withReg : renderTaps (Rendering.withReg m r) = renderTaps r := by
  simp only [renderTaps, Rendering.withReg, withReg, ← h.cutoff, ← h.resonanceNibble]

theorem renderOut_withReg : renderOut (Rendering.withReg m r) = renderOut r := by
  have htaps := renderTaps_withReg h
  unfold renderOut
  rw [htaps]
  simp only [outputSample, volume, Rendering.withReg, withReg, ← h.filterOut, ← h.regNat (a := 0x18) rfl]

/-- The render's last sub-step goes on to the same result and the same state but for the bank. -/
theorem filterSub_withReg {t : State} (hnext : filterSub r = .next t) : ∃ u, filterSub (Rendering.withReg m r) = .next u
    ∧ u.outputs = t.outputs ∧ u.sid = { t.sid with reg := u.sid.reg } := by
  have htaps := renderTaps_withReg h
  have hout := renderOut_withReg h
  obtain ⟨hin, rfl⟩ := filterSub_eq_next_iff.mp hnext
  refine ⟨rendered (Rendering.withReg m r), filterSub_of_inRange ⟨?_, ?_, ?_⟩, ?_, ?_⟩
  · rw [htaps]; exact hin.bp
  · rw [htaps]; exact hin.lp
  · rw [hout]; exact hin.out
  · simp only [rendered, hout]
    rfl
  · simp only [rendered, htaps]
    rfl

end

/-- A render goes on alike under two banks that agree in what is read. -/
theorem exec_sidRender_withReg {s t : State} {m : Bank} (harr : s.arrivals = []) (h : SameReads s.sid.reg m)
    (hnext : exec .sidRender s = .next t) : ∃ u, exec .sidRender (withReg m s) = .next u
      ∧ u.outputs = t.outputs ∧ u.sid = { t.sid with reg := u.sid.reg } := by
  have hvoices : renderVoices (withReg m s) = Rendering.withReg m (renderVoices s) := by
    rw [renderVoices_none harr, renderVoices_none (by exact harr)]
    change renderSub .i2 (renderSub .i1 (renderSub .i0 (Rendering.withReg m (renderStart s)))) = _
    rw [renderSub_withReg (by exact h), renderSub_withReg (by exact h), renderSub_withReg (by exact h)]
  rw [exec_sidRender] at hnext ⊢
  rw [hvoices]
  exact filterSub_withReg (by rw [renderVoices_reg harr]; exact h) hnext

/-- Settles O13: the stores agree in every bit that is read. -/
theorem storageBytesDoNotReachTheSound : Obligations.StorageBytesDoNotReachTheSound := by
  unfold Obligations.StorageBytesDoNotReachTheSound
  intro s t a d e hwf harr
  refine ⟨fun hlo hhi hnext => ?_, fun hbits hnext => ?_⟩
  · have hmask : readMask a = 0x00#8 := by
      unfold readMask
      rw [if_neg (by omega), if_neg (by omega), if_neg (by omega), if_neg (by omega)]
    exact exec_sidRender_withReg harr (sameReads_writeBank_self _ d hmask) hnext
  · exact exec_sidRender_withReg (s := storeReg a d s) harr
      (sameReads_writeBank hwf (and_readMask_of_unreadBits hbits)) hnext

end Sys2Proof.Proofs

/-! PROOFS. The SN76489 (43): the write port by its rows, the unit step of tones and noise, the running outputs, the rate
converter, and the ranges of the generator. -/

namespace Sys2Proof.Proofs

open Sys2Proof.Machine Sys2Proof.Claims Sys2Proof.Laws

-- ---- the write port (43 R240 to R249)

/-- An instruction whose code is a byte on the data port performs that byte. -/
theorem exec_of_snBus {i : Instr} {b : Byte} (hcode : encode i = .snBus b) (s : State) :
    exec i s = .next (onSn (snByte b.toNat) s) := by
  induction i using instr_cases with
  | snRow j e hj =>
    rw [hj.code] at hcode
    cases hcode
    exact hj.exec_eq s
  | sidRow j a d hj => rw [hj.code] at hcode; cases hcode
  | _ => cases hcode

theorem exec_snWrite_byte (b : Byte) (s : State) : exec (.snWrite b.toNat) s = .next (onSn (snByte b.toNat) s) := by
  have hok : (Instr.snWrite (b.toNat : Int)).wellFormed = true := by
    have hb := b.isLt
    simp only [Instr.wellFormed, decide_eq_true_eq]
    omega
  exact (exec_snWrite _ s).trans (guarded_of_ok hok)

/-- Settles O43: both are the byte on the data port. -/
theorem snWriteRunsTheRowOfItsByte : Obligations.SnWriteRunsTheRowOfItsByte := by
  unfold Obligations.SnWriteRunsTheRowOfItsByte
  refine ⟨fun s b => ⟨?_, _, exec_snWrite_byte b s⟩, fun s b hb => ?_⟩
  · rw [exec_snWrite_byte, exec_of_snBus (encode_decodeSnBus b)]
  · rw [exec_snWrite]
    exact guarded_of_not_ok (by simp only [Instr.wellFormed, decide_eq_false_iff_not]; omega)

theorem dataWrite_some {g : Sn} {i : Ix3} (h : dividerOf g.adr = some i) (n : Nat) :
    dataWrite n g = setDividerHigh i n g := by
  simp only [dataWrite, h]

theorem dataWrite_none {g : Sn} (h : dividerOf g.adr = none) (n : Nat) : dataWrite n g = g := by
  simp only [dataWrite, h]

/-- Only the addresses 0, 2 and 4 select a divider (30_encoding R83). -/
theorem dividerOf_eq_none {a : Nat} (h0 : a ≠ 0) (h2 : a ≠ 2) (h4 : a ≠ 4) : dividerOf a = none := by
  unfold dividerOf
  split <;> simp_all

/-- A data byte keeps divider bits 3..0 and the latch (43 R247). -/
theorem setDividerHigh_eq_tonePut {g : Sn} {a : Nat} (h : g.adr = a) (i : Ix3) (n : Nat) : setDividerHigh i n g
    = tonePut g a i { triGet g.tones i with freq := (n * 16) ||| ((triGet g.tones i).freq % 16) } := by
  subst h
  have hlow := Nat.and_two_pow_sub_one_eq_mod (triGet g.tones i).freq 4
  rw [← hlow]
  unfold setDividerHigh
  rw [Nat.shiftLeft_eq]
  rfl

/-- Settles O42: the latch rows by computation, the data row by the latched address. -/
theorem latchAndDataRowsSetTheirRegister : Obligations.LatchAndDataRowsSetTheirRegister := by
  unfold Obligations.LatchAndDataRowsSetTheirRegister
  intro s d x m rr h g low vol high
  have hdata : ∀ {u : Sn}, dataWrite h.toNat g = u → SetsSn (.snData x h) s u := by
    rintro u rfl
    rfl
  refine ⟨rfl, rfl, rfl, rfl, rfl, rfl, rfl, rfl, fun hadr => hdata ?_, fun hadr => hdata ?_, fun hadr => hdata ?_,
    fun h0 h2 h4 => hdata (dataWrite_none (dividerOf_eq_none h0 h2 h4) _)⟩
  · rw [dataWrite_some (i := .i0) (by rw [hadr]; rfl)]
    exact setDividerHigh_eq_tonePut hadr .i0 h.toNat
  · rw [dataWrite_some (i := .i1) (by rw [hadr]; rfl)]
    exact setDividerHigh_eq_tonePut hadr .i1 h.toNat
  · rw [dataWrite_some (i := .i2) (by rw [hadr]; rfl)]
    exact setDividerHigh_eq_tonePut hadr .i2 h.toNat

/-- Replacing the same field twice keeps the second value. -/
@[simp] theorem triSet_triSet {α : Type} (t : Tri α) (i : Ix3) (x y : α) : triSet (triSet t i x) i y = triSet t i y := by
  cases i <;> rfl

/-- Bits put under a mask once stay there. -/
theorem and_or_and_or (x m d : Nat) : (((x &&& m) ||| d) &&& m) ||| d = (x &&& m) ||| d := by
  apply Nat.eq_of_testBit_eq
  intro k
  simp only [Nat.testBit_or, Nat.testBit_and]
  cases x.testBit k <;> cases m.testBit k <;> cases d.testBit k <;> rfl

theorem setDividerLow_idem (i : Ix3) (a d : Nat) (g : Sn) :
    setDividerLow i d (latch a (setDividerLow i d (latch a g))) = setDividerLow i d (latch a g) := by
  simp only [setDividerLow, setTone, latch, triGet_triSet_same, triSet_triSet, and_or_and_or]

theorem setToneVolume_idem (i : Ix3) (a d : Nat) (g : Sn) :
    setToneVolume i d (latch a (setToneVolume i d (latch a g))) = setToneVolume i d (latch a g) := by
  simp only [setToneVolume, setTone, latch, triGet_triSet_same, triSet_triSet]

theorem setDividerHigh_idem (i : Ix3) (n : Nat) (g : Sn) :
    setDividerHigh i n (setDividerHigh i n g) = setDividerHigh i n g := by
  have hfreq : ∀ f : Nat, (n <<< 4) ||| (((n <<< 4) ||| (f &&& 0xF)) &&& 0xF) = (n <<< 4) ||| (f &&& 0xF) := by
    intro f
    rw [Nat.or_comm (n <<< 4) (f &&& 0xF), Nat.or_comm (n <<< 4), and_or_and_or]
  simp only [setDividerHigh, setTone, triGet_triSet_same, triSet_triSet, hfreq]

/-- Everything a latch byte can do, after the latch is set (43 R241 to R246). -/
theorem latchWrite_cases (aaa d : Nat) :
    (∃ i, ∀ g, latchWrite aaa d g = setDividerLow i d (latch aaa g))
      ∨ (∃ i, ∀ g, latchWrite aaa d g = setToneVolume i d (latch aaa g))
      ∨ (∀ g, latchWrite aaa d g = setNoiseControl (bit d 2) (slice d 1 0) (latch aaa g))
      ∨ ∀ g, latchWrite aaa d g = setNoiseVolume d (latch aaa g) := by
  cases hdivider : dividerOf aaa with
  | some i => exact .inl ⟨i, fun g => by simp only [latchWrite, hdivider]⟩
  | none =>
    cases hvolume : volumeOf aaa with
    | some i => exact .inr (.inl ⟨i, fun g => by simp only [latchWrite, hdivider, hvolume]⟩)
    | none =>
      by_cases h6 : aaa = 6
      · exact .inr (.inr (.inl fun g => by simp only [latchWrite, hdivider, hvolume, if_pos h6]))
      · exact .inr (.inr (.inr fun g => by simp only [latchWrite, hdivider, hvolume, if_neg h6]))

theorem latchWrite_idem (aaa d : Nat) (g : Sn) : latchWrite aaa d (latchWrite aaa d g) = latchWrite aaa d g := by
  rcases latchWrite_cases aaa d with ⟨i, h⟩ | ⟨i, h⟩ | h | h <;> rw [h, h]
  · exact setDividerLow_idem i aaa d g
  · exact setToneVolume_idem i aaa d g
  · rfl
  · rfl

theorem dataWrite_idem (n : Nat) (g : Sn) : dataWrite n (dataWrite n g) = dataWrite n g := by
  cases h : dividerOf g.adr with
  | some i =>
    rw [dataWrite_some h, dataWrite_some (by exact h)]
    exact setDividerHigh_idem i n g
  | none => rw [dataWrite_none h, dataWrite_none h]

/-- The same byte a second time changes nothing (20_memory R69). -/
theorem snByte_idem (b : Nat) (g : Sn) : snByte b (snByte b g) = snByte b g := by
  unfold snByte
  split
  · exact latchWrite_idem _ _ g
  · exact dataWrite_idem _ g

/-- Settles O44. -/
theorem snWriteTwiceIsOnce : Obligations.SnWriteTwiceIsOnce := by
  unfold Obligations.SnWriteTwiceIsOnce
  intro s t b h
  rw [exec_snWrite_byte] at h ⊢
  cases h
  change Host.Outcome.next { s with sn := snByte b.toNat (snByte b.toNat s.sn) } = _
  rw [snByte_idem]
  rfl

/-- Settles O45: bits 7..4 of such a byte are the latch bit and address 6. -/
theorem noiseControlReseedsTheLfsr : Obligations.NoiseControlReseedsTheLfsr := by
  unfold Obligations.NoiseControlReseedsTheLfsr
  intro s b hb
  have hfields : ∀ b : Byte, b.toNat / 16 = 0xE → b = latchByte 6#3 (latchData b) := by decide
  refine ⟨_, exec_snWrite_byte b s, ?_⟩
  rw [onSn_sn, hfields b hb, snByte_latchByte]
  rfl

/-- Settles O46. -/
theorem stereoMaskAndMuteAreSet : Obligations.StereoMaskAndMuteAreSet := by
  unfold Obligations.StereoMaskAndMuteAreSet
  refine fun s => ⟨fun b => exec_instrOf (.snGgWrite b) s, fun i f => exec_instrOf (.snSetMute i f) s, fun b hb => ?_,
    fun i f h => ?_⟩
  · rw [exec_snGgWrite]
    exact guarded_of_not_ok (by simp only [Instr.wellFormed, decide_eq_false_iff_not]; omega)
  · rw [exec_snSetMute]
    exact guarded_of_not_ok (by simp only [Instr.wellFormed, Bool.and_eq_false_iff, decide_eq_false_iff_not]; omega)

-- ---- tones (43 R251, R252)

section
variable {t : Tone}

theorem toneUnit_low (h : t.freq ≤ 1) : toneUnit t = { t with edge := true, cnt := 0 } := if_pos h

theorem toneUnit_toggle (h : 2 ≤ t.freq) (hcnt : t.freq ≤ t.cnt + 1) : toneUnit t = { t with edge := !t.edge, cnt := 0 } := by
  unfold toneUnit
  rw [if_neg (by omega), if_pos hcnt]

theorem toneUnit_count (h : 2 ≤ t.freq) (hcnt : t.cnt + 1 < t.freq) : toneUnit t = { t with cnt := t.cnt + 1 } := by
  unfold toneUnit
  rw [if_neg (by omega), if_neg (by omega)]

/-- Everything the tone part of a unit can do: counter and edge move, and the counter stays below the divider. -/
theorem toneUnit_cases (t : Tone) :
    ∃ edge cnt, toneUnit t = { t with edge := edge, cnt := cnt } ∧ (cnt = 0 ∨ cnt < t.freq) := by
  unfold toneUnit
  split
  · exact ⟨_, _, rfl, .inl rfl⟩
  · split
    · exact ⟨_, _, rfl, .inl rfl⟩
    · exact ⟨_, _, rfl, .inr (by omega)⟩

end

theorem triGet_unitStep (g : Sn) (i : Ix3) :
    triGet (unitStep g).tones i = toneOut g.cfg (toneUnit (triGet g.tones i)) := by
  rw [unitStep_tones, triGet_triMap]

/-- One unit more is a unit at the end. -/
theorem repeatUnit_succ_last (n : Nat) : ∀ g : Sn, repeatUnit (n + 1) g = unitStep (repeatUnit n g) := by
  induction n with
  | zero => exact fun g => rfl
  | succ n ih => exact fun g => ih (unitStep g)

/-- Units leave every divider (43 R250). -/
theorem repeatUnit_freq (n : Nat) (g : Sn) (i : Ix3) :
    (triGet (repeatUnit n g).tones i).freq = (triGet g.tones i).freq := by
  induction n with
  | zero => rfl
  | succ n ih =>
    obtain ⟨edge, cnt, hunit, -⟩ := toneUnit_cases (triGet (repeatUnit n g).tones i)
    rw [repeatUnit_succ_last, triGet_unitStep, hunit]
    exact ih

/-- Settles O47: the last unit alone forces the edge. -/
theorem lowDividerForcesTheEdgeHigh : Obligations.LowDividerForcesTheEdgeHigh := by
  unfold Obligations.LowDividerForcesTheEdgeHigh
  intro g i n h
  rw [repeatUnit_succ_last, triGet_unitStep, toneUnit_low (by rw [repeatUnit_freq]; exact h)]
  exact ⟨rfl, rfl⟩

/-- From counter 0 the units are counted up to the divider (43 R251). -/
theorem repeatUnit_counts {g : Sn} {i : Ix3} (hfreq : 2 ≤ (triGet g.tones i).freq) (hcnt : (triGet g.tones i).cnt = 0)
    (n : Nat) (hn : n < (triGet g.tones i).freq) :
    (triGet (repeatUnit n g).tones i).edge = (triGet g.tones i).edge ∧ (triGet (repeatUnit n g).tones i).cnt = n := by
  induction n with
  | zero => exact ⟨rfl, hcnt⟩
  | succ n ih =>
    obtain ⟨hedge, hcount⟩ := ih (by omega)
    have hfreq' := repeatUnit_freq n g i
    rw [repeatUnit_succ_last, triGet_unitStep, toneUnit_count (by omega) (by omega)]
    exact ⟨hedge, congrArg (· + 1) hcount⟩

/-- Settles O48: the unit that reaches the divider toggles. -/
theorem toneTogglesEveryDividerUnits : Obligations.ToneTogglesEveryDividerUnits := by
  unfold Obligations.ToneTogglesEveryDividerUnits
  intro g i n hfreq hcnt
  refine ⟨repeatUnit_counts hfreq hcnt n, fun hn => ?_⟩
  obtain ⟨m, rfl⟩ : ∃ m, n = m + 1 := ⟨n - 1, by omega⟩
  obtain ⟨hedge, hcount⟩ := repeatUnit_counts hfreq hcnt m (by omega)
  have hfreq' := repeatUnit_freq m g i
  rw [repeatUnit_succ_last, triGet_unitStep, toneUnit_toggle (by omega) (by omega)]
  exact ⟨congrArg not hedge, rfl⟩

-- ---- noise (43 R253, R254)

theorem noisePeriod_eq (g : Sn) : noisePeriod g
    = if g.noise.rate = 3 then max 1 (g.cfg.frefMult * g.tones.a2.freq) else 32 * 2 ^ g.noise.rate := by
  simp only [noisePeriod, noiseUsesTone2, decide_eq_true_eq, Nat.shiftLeft_eq]

/-- The feedback bit of the noise LFSR (43 R254). -/
def noiseFeedback (mode : Bool) (tap x : Nat) : Bool := if mode then parity (x &&& tap) else x.testBit 0

theorem noiseLfsrStep_eq (mode : Bool) (tap : Nat) {x : Nat} (hx : x ≤ 0xFFFF) :
    noiseLfsrStep mode tap x = x / 2 + (if noiseFeedback mode tap x then 0x8000 else 0) := by
  have hlow : x / 2 < 2 ^ 15 := by omega
  change (x >>> 1) ||| (bitNat (noiseFeedback mode tap x) <<< 15) = _
  rw [Nat.shiftRight_eq_div_pow, Nat.pow_one, Nat.or_comm, ← Nat.shiftLeft_add_eq_or_of_lt hlow, Nat.shiftLeft_eq,
    bitNat_mul, Nat.add_comm]

theorem noiseUnit_shift {g : Sn} (h : noisePeriod g ≤ g.noise.cnt + 1) : noiseUnit g
    = { g.noise with cnt := 0, seed := noiseLfsrStep g.noise.mode g.cfg.whiteTap g.noise.seed } := if_pos h

theorem noiseUnit_count {g : Sn} (h : g.noise.cnt + 1 < noisePeriod g) : noiseUnit g
    = { g.noise with cnt := g.noise.cnt + 1 } := if_neg (by omega)

/-- Everything the noise part of a unit can do: the counter moves, and the seed stays or is shifted. -/
theorem noiseUnit_cases (g : Sn) : ∃ cnt seed, noiseUnit g = { g.noise with cnt := cnt, seed := seed }
    ∧ (seed = g.noise.seed ∨ seed = noiseLfsrStep g.noise.mode g.cfg.whiteTap g.noise.seed) := by
  by_cases h : noisePeriod g ≤ g.noise.cnt + 1
  · exact ⟨_, _, noiseUnit_shift h, .inr rfl⟩
  · exact ⟨_, _, noiseUnit_count (by omega), .inl rfl⟩

/-- Settles O49. -/
theorem noiseShiftsOncePerPeriod : Obligations.NoiseShiftsOncePerPeriod := by
  unfold Obligations.NoiseShiftsOncePerPeriod
  intro g _ hseed np fb n
  have hnp : noisePeriod g = np := noisePeriod_eq g
  have hn : n = noiseOutUnit g.cfg (noiseUnit g) := unitStep_noise g
  refine ⟨fun hfull => ?_, fun hlt => ?_, ?_⟩
  · rw [hn, noiseUnit_shift (hnp.trans_le hfull)]
    exact ⟨rfl, noiseLfsrStep_eq _ _ hseed⟩
  · rw [hn, noiseUnit_count (hlt.trans_eq hnp.symm)]
    exact ⟨rfl, rfl⟩
  · obtain ⟨cnt, seed, hunit, -⟩ := noiseUnit_cases g
    rw [hn, hunit]
    exact ⟨rfl, rfl, rfl⟩

-- ---- running outputs (43 R255, R256)

theorem smooth_eq (k : Nat) (t c : Int) : smooth k t c = c + (t - c) / 2 ^ k := rfl

section
variable (k : Nat) {t c : Int}

/-- Above the target the output falls without passing it. -/
theorem smooth_fall (h : t < c) : t ≤ smooth k t c ∧ smooth k t c < c := by
  have hpow : (1 : Int) ≤ 2 ^ k := one_le_pow₀ (by decide)
  have hneg : (t - c) / 2 ^ k < 0 := Int.ediv_neg_of_neg_of_pos (by omega) (by omega)
  have hge : t - c ≤ (t - c) / 2 ^ k := by
    rw [Int.le_ediv_iff_mul_le (by omega)]
    nlinarith
  rw [smooth_eq]
  omega

/-- Far below it rises without passing it. -/
theorem smooth_rise (h : c + 2 ^ k ≤ t) : c < smooth k t c ∧ smooth k t c ≤ t := by
  have hpow : (1 : Int) ≤ 2 ^ k := one_le_pow₀ (by decide)
  have hpos : 1 ≤ (t - c) / 2 ^ k := by
    rw [Int.le_ediv_iff_mul_le (by omega)]
    omega
  have hle : (t - c) / 2 ^ k ≤ t - c := Int.ediv_le_self _ (by omega)
  rw [smooth_eq]
  omega

/-- Within less than `2^k` below the target it stays. -/
theorem smooth_stay (hle : c ≤ t) (hlt : t < c + 2 ^ k) : smooth k t c = c := by
  have hzero : (t - c) / 2 ^ k = 0 := Int.ediv_eq_zero_of_lt (by omega) (by omega)
  rw [smooth_eq, hzero, add_zero]

/-- Between two bounds that hold the target, the output stays between them. -/
theorem smooth_range {hi : Int} (ht : 0 ≤ t ∧ t ≤ hi) (hc : 0 ≤ c ∧ c ≤ hi) : 0 ≤ smooth k t c ∧ smooth k t c ≤ hi := by
  by_cases habove : t < c
  · have := smooth_fall k habove
    omega
  · by_cases hfar : c + 2 ^ k ≤ t
    · have := smooth_rise k hfar
      omega
    · rw [smooth_stay k (by omega) (by omega)]
      exact hc

end

theorem smooth_one (t c : Int) : smooth 1 t c = (c + t) / 2 := by
  rw [smooth_eq, pow_one]
  omega

theorem toneTarget_eq (cfg : SnConfig) (t : Tone) : toneTarget cfg t
    = if t.edge = true ∧ t.mute = false then volEntry cfg t.vol else 0 := by
  simp only [toneTarget, Bool.and_eq_true, Bool.not_eq_true']

/-- Settles O50. -/
theorem runningOutputApproachesItsTarget : Obligations.RunningOutputApproachesItsTarget := by
  unfold Obligations.RunningOutputApproachesItsTarget
  refine ⟨fun k t c => ⟨smooth_fall k, smooth_rise k, smooth_stay k, smooth_one t c⟩, fun g => ?_⟩
  intro vol g'
  refine ⟨fun i => ?_, ?_⟩
  · intro t t'
    obtain ⟨edge, cnt, hunit, -⟩ := toneUnit_cases t
    have ht' : t' = toneOut g.cfg { t with edge := edge, cnt := cnt } := (triGet_unitStep g i).trans (congrArg _ hunit)
    rw [ht']
    exact ⟨congrArg (smooth g.cfg.smoothShift · t.chout) (toneTarget_eq g.cfg _), rfl, rfl, rfl⟩
  · obtain ⟨cnt, seed, hunit, -⟩ := noiseUnit_cases g
    have hn : g'.noise = noiseOutUnit g.cfg { g.noise with cnt := cnt, seed := seed } :=
      (unitStep_noise g).trans (congrArg _ hunit)
    rw [hn]
    rfl

-- ---- the ranges of the generator (10_state R33 to R38, 43 R269)

theorem triAll_iff {α : Type} (p : α → Prop) (t : Tri α) : TriAll p t ↔ ∀ i, p (triGet t i) :=
  ⟨fun ⟨h0, h1, h2⟩ i => by cases i <;> assumption, fun h => ⟨h .i0, h .i1, h .i2⟩⟩

theorem TriAll.triSet {α : Type} {p : α → Prop} {t : Tri α} (h : TriAll p t) (i : Ix3) {x : α} (hx : p x) :
    TriAll p (triSet t i x) := by
  rw [triAll_iff] at h ⊢
  intro j
  by_cases hj : j = i
  · subst hj
    rw [triGet_triSet_same]
    exact hx
  · rw [triGet_triSet_ne _ _ _ _ hj]
    exact h j

theorem TriAll.triMap {α : Type} {p : α → Prop} {t : Tri α} (h : TriAll p t) {f : α → α} (hf : ∀ x, p x → p (f x)) :
    TriAll p (triMap f t) := by
  obtain ⟨h0, h1, h2⟩ := h
  exact ⟨hf _ h0, hf _ h1, hf _ h2⟩

/-- The largest entry of the volume table is at least each of them (10_state R38). -/
theorem volEntry_range (cfg : SnConfig) (k : Nat) : OutOk cfg (volEntry cfg k) := by
  have hmax : ∀ (l : List Nat) (a : Nat), a ≤ l.foldl max a ∧ ∀ x ∈ l, x ≤ l.foldl max a := by
    intro l
    induction l with
    | nil => exact fun a => ⟨le_rfl, fun x hx => absurd hx List.not_mem_nil⟩
    | cons y l ih =>
      intro a
      obtain ⟨hstart, hmem⟩ := ih (max a y)
      refine ⟨(le_max_left a y).trans hstart, fun x hx => ?_⟩
      rcases List.mem_cons.mp hx with rfl | hx
      · exact (le_max_right a x).trans hstart
      · exact hmem x hx
  refine ⟨Int.natCast_nonneg _, Int.ofNat_le.mpr ?_⟩
  by_cases hk : k < cfg.volTable.length
  · rw [List.getD_eq_getElem _ _ hk]
    exact (hmax cfg.volTable 0).2 _ (List.getElem_mem hk)
  · rw [List.getD_eq_default _ _ (by omega)]
    exact Nat.zero_le _

theorem outOk_zero (cfg : SnConfig) : OutOk cfg 0 := ⟨le_rfl, Int.natCast_nonneg _⟩

theorem toneTarget_range (cfg : SnConfig) (t : Tone) : OutOk cfg (toneTarget cfg t) := by
  unfold toneTarget
  split
  · exact volEntry_range cfg t.vol
  · exact outOk_zero cfg

theorem noiseTarget_range (cfg : SnConfig) (n : Noise) : OutOk cfg (noiseTarget cfg n) := by
  unfold noiseTarget
  split
  · exact volEntry_range cfg n.vol
  · exact outOk_zero cfg

theorem ToneOk.unit {cfg : SnConfig} {t : Tone} (h : ToneOk cfg t) : ToneOk cfg (toneOut cfg (toneUnit t)) := by
  obtain ⟨hfreq, hvol, hcnt, hout⟩ := h
  obtain ⟨edge, cnt, hunit, hbelow⟩ := toneUnit_cases t
  rw [hunit]
  exact ⟨hfreq, hvol, by change cnt ≤ 1022; omega, smooth_range _ (toneTarget_range cfg _) hout⟩

/-- A seed that is not 0 is not shifted to 0: a lone bit 0 is fed back, in white mode through tap bit 0 (43 R269). -/
theorem noiseLfsrStep_ne_zero (mode : Bool) {tap x : Nat} (htap : bit tap 0 = true) (hx : x ≤ 0xFFFF) (hne : x ≠ 0) :
    noiseLfsrStep mode tap x ≠ 0 := by
  rw [noiseLfsrStep_eq mode tap hx]
  by_cases hone : x = 1
  · have hand : 1 &&& tap = 1 := by
      have hodd : tap % 2 = 1 := by rwa [bit, Nat.testBit_zero, decide_eq_true_eq] at htap
      rw [Nat.one_and_eq_mod_two, hodd]
    have hfeed : noiseFeedback mode tap x = true := by
      rw [hone, noiseFeedback, hand]
      cases mode <;> rfl
    rw [hfeed]
    exact Nat.succ_ne_zero _
  · omega

theorem noiseLfsrStep_le (mode : Bool) (tap : Nat) {x : Nat} (hx : x ≤ 0xFFFF) : noiseLfsrStep mode tap x ≤ 0xFFFF := by
  rw [noiseLfsrStep_eq mode tap hx]
  split <;> omega

theorem NoiseOk.unit {g : Sn} (h : NoiseOk g.cfg g.noise) : NoiseOk g.cfg (noiseOutUnit g.cfg (noiseUnit g)) := by
  obtain ⟨hvol, hrate, hseed, hne, hout⟩ := h
  obtain ⟨cnt, seed, hunit, hnext⟩ := noiseUnit_cases g
  have hseed' : seed ≤ 0xFFFF ∧ (bit g.cfg.whiteTap 0 = true → seed ≠ 0) := by
    rcases hnext with rfl | rfl
    · exact ⟨hseed, hne⟩
    · exact ⟨noiseLfsrStep_le _ _ hseed, fun htap => noiseLfsrStep_ne_zero _ htap hseed (hne htap)⟩
  rw [hunit]
  exact ⟨hvol, hrate, hseed'.1, hseed'.2, smooth_range _ (noiseTarget_range g.cfg _) hout⟩

theorem SnOk.unitStep {g : Sn} (h : SnOk g) : SnOk (unitStep g) := by
  obtain ⟨hcfg, htones, hnoise, hadr, hbacc, hstime⟩ := h
  exact ⟨hcfg, TriAll.triMap htones fun _ ht => ToneOk.unit ht, NoiseOk.unit hnoise, hadr, hbacc, hstime⟩

theorem SnOk.repeatUnit (n : Nat) : ∀ {g : Sn}, SnOk g → SnOk (repeatUnit n g) := by
  induction n with
  | zero => exact fun h => h
  | succ n ih => exact fun h => ih (SnOk.unitStep h)

/-- Each round of the quality loop starts below REALSTEP, so that it ends below REALSTEP + SNSTEP (43 R264). -/
theorem SnOk.qualityLoop (fuel : Nat) : ∀ {g : Sn}, SnOk g → SnOk (qualityLoop fuel g) := by
  induction fuel with
  | zero => exact fun h => h
  | succ n ih =>
    intro g h
    unfold Machine.qualityLoop
    split
    · next hlt =>
      obtain ⟨hcfg, htones, hnoise, hadr, hbacc, -⟩ := h
      exact ih (SnOk.unitStep (g := { g with stime := g.stime + snUnitStep g.cfg })
        ⟨hcfg, htones, hnoise, hadr, hbacc, Nat.add_lt_add_right hlt _⟩)
    · exact h

theorem SnOk.rateAdvance {g : Sn} (h : SnOk g) : SnOk (rateAdvance g) := by
  unfold Machine.rateAdvance
  split
  · obtain ⟨hcfg, htones, hnoise, hadr, hbacc, hstime⟩ := SnOk.qualityLoop (realStep g.cfg) h
    exact ⟨hcfg, htones, hnoise, hadr, hbacc, (Nat.sub_le _ _).trans_lt hstime⟩
  · obtain ⟨hcfg, htones, hnoise, hadr, -, hstime⟩ := h
    exact SnOk.repeatUnit _ ⟨hcfg, htones, hnoise, hadr, Nat.mod_lt _ (by decide), hstime⟩

/-- Settles O51: the sum of four running outputs in range. -/
theorem snStepReturnsTheMonoSum : Obligations.SnStepReturnsTheMonoSum := by
  unfold Obligations.SnStepReturnsTheMonoSum
  intro s g
  obtain ⟨hadr, hstereo, hcfg⟩ := rateAdvance_frame s.sn
  refine ⟨rfl, fun hok => ?_, hadr, hstereo, hcfg⟩
  obtain ⟨-, ⟨⟨-, -, -, h0⟩, ⟨-, -, -, h1⟩, -, -, -, h2⟩, ⟨-, -, -, -, h3⟩, -⟩ := SnOk.rateAdvance hok
  unfold OutOk at h0 h1 h2 h3
  rw [hcfg] at h0 h1 h2 h3
  change 0 ≤ (rateAdvance s.sn).tones.a0.chout + (rateAdvance s.sn).tones.a1.chout + (rateAdvance s.sn).tones.a2.chout
    + (rateAdvance s.sn).noise.chout ∧ (rateAdvance s.sn).tones.a0.chout + (rateAdvance s.sn).tones.a1.chout
    + (rateAdvance s.sn).tones.a2.chout + (rateAdvance s.sn).noise.chout ≤ 4 * volMax s.sn.cfg
  omega

/-- One side of the mask is its four gated summands (43 R266). -/
theorem sideMix_eq_sum (base : Nat) (g : Sn) : sideMix base g = ((List.range 4).map (fun k =>
    if g.stereo.toNat.testBit (base + k) then
      ([g.tones.a0.chout, g.tones.a1.chout, g.tones.a2.chout, g.noise.chout]).getD k 0 else 0)).sum := by
  change _ = (List.map _ [0, 1, 2, 3]).sum
  simp only [List.map_cons, List.map_nil, List.sum_cons, List.sum_nil, add_zero, ← add_assoc]
  rfl

/-- Settles O52. -/
theorem snStepStereoReturnsTheMaskedSums : Obligations.SnStepStereoReturnsTheMaskedSums := by
  unfold Obligations.SnStepStereoReturnsTheMaskedSums
  intro s g out side
  have hside : ∀ b, sideMix b g = side b := by
    intro b
    rw [sideMix_eq_sum, (rateAdvance_frame s.sn).stereo]
  refine ⟨?_, fun hmask => ?_, fun hmask => ?_⟩
  · rw [← hside, ← hside]
    rfl
  · rw [← hside, ← hside]
    have hstereo : g.stereo = 0xFF#8 := (rateAdvance_frame s.sn).stereo.trans hmask
    unfold sideMix
    rw [hstereo]
    exact ⟨rfl, rfl⟩
  · rw [← hside, ← hside]
    have hstereo : g.stereo = 0x00#8 := (rateAdvance_frame s.sn).stereo.trans hmask
    unfold sideMix
    rw [hstereo]
    exact ⟨rfl, rfl⟩

-- ---- the rate converter (43 R261 to R264)

/-- Units do not look at the converter's accumulators. -/
theorem repeatUnit_withStime (n x : Nat) : ∀ g : Sn, repeatUnit n { g with stime := x } = { repeatUnit n g with stime := x } := by
  induction n with
  | zero => exact fun g => rfl
  | succ n ih => exact fun g => ih (unitStep g)

theorem repeatUnit_withBacc (n x : Nat) : ∀ g : Sn, repeatUnit n { g with bacc := x } = { repeatUnit n g with bacc := x } := by
  induction n with
  | zero => exact fun g => rfl
  | succ n ih => exact fun g => ih (unitStep g)

/-- The units of quality mode: the distance to REALSTEP in unit steps, rounded up (43 R264). -/
def unitsDue (real stime unit : Nat) : Nat := (real - stime + unit - 1) / unit

section
variable {real stime unit : Nat} (hunit : 1 ≤ unit)
include hunit

theorem unitsDue_of_le (h : real ≤ stime) : unitsDue real stime unit = 0 := by
  unfold unitsDue
  rw [Nat.sub_eq_zero_of_le h]
  exact Nat.div_eq_of_lt (by omega)

theorem unitsDue_of_lt (h : stime < real) : unitsDue real stime unit = unitsDue real (stime + unit) unit + 1 := by
  unfold unitsDue
  rw [← Nat.add_div_right _ hunit]
  by_cases hfar : stime + unit ≤ real
  · have hsame : real - stime + unit - 1 = real - (stime + unit) + unit - 1 + unit := by omega
    rw [hsame]
  · have hone : (real - stime + unit - 1) / unit = 1 := Nat.div_eq_of_lt_le (by omega) (by omega)
    have hone' : (real - (stime + unit) + unit - 1 + unit) / unit = 1 := Nat.div_eq_of_lt_le (by omega) (by omega)
    rw [hone, hone']

/-- Rounding up reaches REALSTEP and passes it by less than one unit step. -/
theorem unitsDue_bounds : real ≤ stime + unitsDue real stime unit * unit
    ∧ unitsDue real stime unit * unit < real - stime + unit := by
  have hdiv := Nat.div_add_mod (real - stime + unit - 1) unit
  have hmod := Nat.mod_lt (real - stime + unit - 1) hunit
  unfold unitsDue
  rw [Nat.mul_comm]
  omega

end

/-- With fuel for every round, the loop runs the units that are due. -/
theorem qualityLoop_eq (fuel : Nat) : ∀ g : Sn, 1 ≤ snUnitStep g.cfg → realStep g.cfg ≤ g.stime + fuel →
    qualityLoop fuel g = { repeatUnit (unitsDue (realStep g.cfg) g.stime (snUnitStep g.cfg)) g with
      stime := g.stime + unitsDue (realStep g.cfg) g.stime (snUnitStep g.cfg) * snUnitStep g.cfg } := by
  induction fuel with
  | zero =>
    intro g hunit hfuel
    rw [unitsDue_of_le hunit (by omega), Nat.zero_mul]
    rfl
  | succ fuel ih =>
    intro g hunit hfuel
    unfold qualityLoop
    split
    · next hlt =>
      have hloop := ih (unitStep { g with stime := g.stime + snUnitStep g.cfg }) hunit (by
        simp only [unitStep_stime, unitStep_cfg]; omega)
      simp only [unitStep_stime, unitStep_cfg] at hloop
      rw [hloop, unitsDue_of_lt hunit hlt, Nat.succ_mul, Nat.add_comm (_ * _), ← Nat.add_assoc, ← repeatUnit_succ,
        repeatUnit_withStime]
    · next hge =>
      rw [unitsDue_of_le hunit (by omega), Nat.zero_mul]
      rfl

/-- Settles O53. -/
theorem rateConverterRunsTheUnitsOfItsMode : Obligations.RateConverterRunsTheUnitsOfItsMode := by
  unfold Obligations.RateConverterRunsTheUnitsOfItsMode
  intro g b real unit u
  have hu : u = unitsDue real g.stime unit := rfl
  refine ⟨fun hmode => ?_, fun hmode hunit => ⟨?_, ?_, fun hlt => ?_, fun hge => ?_⟩⟩
  · unfold rateAdvance
    rw [hmode, if_neg Bool.false_ne_true]
    exact repeatUnit_withBacc _ _ g
  · have hloop := qualityLoop_eq (realStep g.cfg) g hunit (Nat.le_add_left _ _)
    unfold rateAdvance
    rw [hmode, if_pos rfl]
    dsimp only [qualityAdvance]
    rw [hloop]
    have hreal : ∀ n, realStep (repeatUnit n g).cfg = real := fun n => congrArg realStep (repeatUnit_frame n g).cfg
    dsimp only
    rw [hreal]
    rfl
  · rw [hu]
    exact (unitsDue_bounds hunit).1
  · have h := (unitsDue_bounds (real := real) (stime := g.stime) hunit).2
    rw [hu]
    omega
  · exact unitsDue_of_le hunit hge

end Sys2Proof.Proofs

/-! PROOFS. Creation and reset (70 R320 to R324), and the statements about every instruction: what stays fixed, that the two
chips do not touch each other, and that every step keeps every range. -/

namespace Sys2Proof.Proofs

open Sys2Proof.Machine Sys2Proof.Claims Sys2Proof.Laws

-- ---- creation and reset

theorem exec_sidReset (s : State) : exec .sidReset s = .next { s with sid := resetSid s.params.noiseSeed s.sid } := rfl

/-- Settles O54. -/
theorem sidCreateGivesAZeroedInstance : Obligations.SidCreateGivesAZeroedInstance := by
  unfold Obligations.SidCreateGivesAZeroedInstance
  intro s model rate hz ratio att hrate hhz hratio hratio' hdiv
  have hctx : (HostContext.mk rate hz ratio att).ok = true := by
    simp only [HostContext.ok, Bool.and_eq_true, decide_eq_true_eq]
    omega
  have hdivisor : decide (1 ≤ (s.params.channelCount : Int) * 15 + att) = true := decide_eq_true hdiv
  refine ⟨{ s with sid := Sid.created s.params.noiseSeed ⟨model, rate, hz, ratio, att⟩ }, ?_, fun _ => rfl,
    fun v => by cases v <;> rfl, rfl⟩
  cases model
  · rw [exec_sidCreate, guarded_of_ok (by simp only [createOk, Instr.wellFormed, hctx, hdivisor]; rfl)]
    rfl
  · rw [exec_sidCreate, guarded_of_ok (by simp only [createOk, Instr.wellFormed, hctx, hdivisor]; rfl)]
    rfl

/-- Settles O55. -/
theorem sidResetKeepsTheBank : Obligations.SidResetKeepsTheBank := by
  unfold Obligations.SidResetKeepsTheBank
  exact fun s => ⟨_, exec_sidReset s, fun v => by cases v <;> rfl, rfl⟩

/-- Settles O56. -/
theorem snCreateAndResetGiveTheResetGenerator : Obligations.SnCreateAndResetGiveTheResetGenerator := by
  unfold Obligations.SnCreateAndResetGiveTheResetGenerator
  exact fun s cfg => ⟨rfl, fun hok => (exec_snCreate cfg s).trans (guarded_of_ok hok)⟩

-- ---- what no operation but a creation changes

/-- The parts that stay fixed while voices, registers and the generators run. -/
structure FixedParts (s t : State) : Prop where
  params : t.params = s.params
  queue : t.queue = s.queue
  pos : t.pos = s.pos
  sidCfg : t.sid.cfg = s.sid.cfg
  snCfg : t.sn.cfg = s.sn.cfg
  pVol : t.sid.pVol = s.sid.pVol

theorem FixedParts.trans {s t u : State} (h : FixedParts s t) (k : FixedParts t u) : FixedParts s u :=
  ⟨k.params.trans h.params, k.queue.trans h.queue, k.pos.trans h.pos, k.sidCfg.trans h.sidCfg, k.snCfg.trans h.snCfg,
    k.pVol.trans h.pVol⟩

theorem hostPoint_fixed (s : State) : FixedParts s (hostPoint s) := by
  have h := hostPoint_frame s
  exact ⟨h.params, h.queue, h.pos, h.sidCfg, h.snCfg, h.pVol⟩

theorem advanceSub_fixed (v : Ix3) (c : Nat) (s : State) : FixedParts s (advanceSub v c s) := ⟨rfl, rfl, rfl, rfl, rfl, rfl⟩

theorem advanceAll_fixed (c : Nat) (s : State) : FixedParts s (advanceAll c s) :=
  ((((advanceSub_fixed .i0 c s).trans (hostPoint_fixed _)).trans (advanceSub_fixed .i1 c _)).trans
    (hostPoint_fixed _)).trans (advanceSub_fixed .i2 c _)

/-- A voice sub-step of a render with the interleaving point after it. -/
theorem renderPoint_renderSub_fixed (v : Ix3) (r : Rendering) : FixedParts r.st (renderPoint (renderSub v r)).st :=
  FixedParts.trans (t := (renderSub v r).st) ⟨rfl, rfl, rfl, rfl, rfl, rfl⟩ (hostPoint_fixed _)

theorem rendered_fixed (s : State) : FixedParts s (rendered (renderVoices s)) :=
  (((renderPoint_renderSub_fixed .i0 (renderStart s)).trans (renderPoint_renderSub_fixed .i1 _)).trans
    (renderPoint_renderSub_fixed .i2 _)).trans ⟨rfl, rfl, rfl, rfl, rfl, rfl⟩

theorem onSn_fixed {f : Sn → Sn} (hf : ∀ g, (f g).cfg = g.cfg) (s : State) : FixedParts s (onSn f s) :=
  ⟨rfl, rfl, rfl, rfl, hf _, rfl⟩

/-- Every instruction but a creation or a reset of the SID keeps the fixed parts. -/
theorem exec_fixed {i : Instr} {s t : State} (hsid : ∀ m ctx, i ≠ .sidCreate m ctx) (hsn : ∀ c, i ≠ .snCreate c)
    (hreset : i ≠ .sidReset) (h : exec i s = .next t) : FixedParts s t := by
  induction i using instr_cases with
  | sidCreate m ctx => exact absurd rfl (hsid m ctx)
  | snCreate cfg => exact absurd rfl (hsn cfg)
  | sidReset => exact absurd rfl hreset
  | sidWrite a d =>
    obtain ⟨-, rfl⟩ := next_of_guarded (exec_sidWrite a d s) h
    exact ⟨rfl, rfl, rfl, rfl, rfl, rfl⟩
  | sidRead a =>
    obtain ⟨-, rfl⟩ := next_of_guarded (exec_sidRead a s) h
    exact ⟨rfl, rfl, rfl, rfl, rfl, rfl⟩
  | sidAdvance c =>
    obtain ⟨-, rfl⟩ := next_of_guarded (exec_sidAdvance c s) h
    exact advanceAll_fixed _ s
  | sidRender =>
    obtain ⟨-, rfl⟩ := exec_sidRender_eq_next_iff.mp h
    exact rendered_fixed s
  | snReset => cases h; exact ⟨rfl, rfl, rfl, rfl, rfl, rfl⟩
  | snWrite b =>
    obtain ⟨-, rfl⟩ := next_of_guarded (exec_snWrite b s) h
    exact onSn_fixed (snByte_cfg _) s
  | snGgWrite b =>
    obtain ⟨-, rfl⟩ := next_of_guarded (exec_snGgWrite b s) h
    exact onSn_fixed (setStereo_cfg · _) s
  | snSetMute k f =>
    obtain ⟨-, rfl⟩ := next_of_guarded (exec_snSetMute k f s) h
    exact onSn_fixed (setMute_cfg · _ _) s
  | snStep => cases h; exact (onSn_fixed (fun g => (rateAdvance_frame g).cfg) s).trans ⟨rfl, rfl, rfl, rfl, rfl, rfl⟩
  | snStepStereo => cases h; exact (onSn_fixed (fun g => (rateAdvance_frame g).cfg) s).trans ⟨rfl, rfl, rfl, rfl, rfl, rfl⟩
  | sidRow j a d hj =>
    rw [hj.exec_eq] at h
    cases h
    exact ⟨rfl, rfl, rfl, rfl, rfl, rfl⟩
  | snRow j b hj =>
    rw [hj.exec_eq] at h
    cases h
    exact onSn_fixed (snByte_cfg _) s

/-- Settles O57: the two creations and the SID reset by their next states, every other instruction by its fixed parts. -/
theorem configurationIsFixedAtCreation : Obligations.ConfigurationIsFixedAtCreation := by
  unfold Obligations.ConfigurationIsFixedAtCreation
  intro i s t h
  by_cases hsid : ∃ m ctx, i = .sidCreate m ctx
  · obtain ⟨m, ctx, rfl⟩ := hsid
    obtain ⟨-, rfl⟩ := next_of_guarded (exec_sidCreate m ctx s) h
    exact ⟨rfl, rfl, rfl, fun hne => absurd rfl (hne m ctx), fun _ => rfl, .inr rfl⟩
  · by_cases hsn : ∃ c, i = .snCreate c
    · obtain ⟨c, rfl⟩ := hsn
      obtain ⟨-, rfl⟩ := next_of_guarded (exec_snCreate c s) h
      exact ⟨rfl, rfl, rfl, fun _ => rfl, fun hne => absurd rfl (hne c), .inl rfl⟩
    · by_cases hreset : i = .sidReset
      · subst hreset
        cases h
        exact ⟨rfl, rfl, rfl, fun _ => rfl, fun _ => rfl, .inr rfl⟩
      · push Not at hsid hsn
        obtain ⟨hparams, hqueue, hpos, hsidCfg, hsnCfg, hpVol⟩ := exec_fixed hsid hsn hreset h
        exact ⟨hparams, hqueue, hpos, fun _ => hsidCfg, fun _ => hsnCfg, .inl hpVol⟩

-- ---- the two chips (60 R310)

/-- The machine with another generator. -/
def withSn (g : Sn) (s : State) : State := { s with sn := g }

/-- The machine with another SID. -/
def withSid (c : Sid) (s : State) : State := { s with sid := c }

theorem actsOnSid_of_sidRow {i : Instr} {a d : Byte} (h : IsSidRow i a d) : actsOnSid i = true := by
  simp only [actsOnSid, h.code]

theorem actsOnSid_of_snRow {i : Instr} {b : Byte} (h : IsSnRow i b) : actsOnSid i = false := by
  simp only [actsOnSid, h.code]

theorem mapOutcome_guarded (f : State → State) (ok : Bool) (t : State) (q : Refusal) :
    mapOutcome f (guarded ok t q) = guarded ok (f t) q := by
  cases ok <;> rfl

theorem advanceAll_withSn (g : Sn) (c : Nat) {s : State} (h : s.arrivals = []) :
    advanceAll c (withSn g s) = withSn g (advanceAll c s) := by
  rw [advanceAll_none c h, advanceAll_none c (by exact h)]
  rfl

/-- The last sub-step of a render neither reads nor writes the SN76489. -/
theorem filterSub_withSn (g : Sn) (r : Rendering) :
    filterSub { r with st := withSn g r.st } = mapOutcome (withSn g) (filterSub r) := by
  rcases filterSub_cases r with ⟨hbp, h⟩ | ⟨hbp, hlp, h⟩ | ⟨hbp, hlp, hout, h⟩ | ⟨hbp, hlp, hout, h⟩ <;> rw [h]
  · exact filterSub_bp_fault hbp
  · exact filterSub_lp_fault hbp hlp
  · exact filterSub_out_fault hbp hlp hout
  · exact filterSub_of_inRange (r := { r with st := withSn g r.st }) ⟨hbp, hlp, hout⟩

theorem exec_sidRender_withSn (g : Sn) {s : State} (h : s.arrivals = []) :
    exec .sidRender (withSn g s) = mapOutcome (withSn g) (exec .sidRender s) := by
  have hvoices : renderVoices (withSn g s) = { renderVoices s with st := withSn g (renderVoices s).st } := by
    rw [renderVoices_none h, renderVoices_none (by exact h)]
    rfl
  rw [exec_sidRender, exec_sidRender, hvoices, filterSub_withSn]

/-- An operation on the SID has the same outcome whatever generator stands beside it. -/
theorem exec_withSn {i : Instr} (hi : actsOnSid i = true) (g : Sn) {s : State} (harr : s.arrivals = []) :
    exec i (withSn g s) = mapOutcome (withSn g) (exec i s) := by
  induction i using instr_cases with
  | sidCreate m ctx => rw [exec_sidCreate, exec_sidCreate, mapOutcome_guarded]; rfl
  | sidReset => rfl
  | sidWrite a d => rw [exec_sidWrite, exec_sidWrite, mapOutcome_guarded]; rfl
  | sidRead a => rw [exec_sidRead, exec_sidRead, mapOutcome_guarded]; rfl
  | sidAdvance c => rw [exec_sidAdvance, exec_sidAdvance, mapOutcome_guarded, advanceAll_withSn g _ harr]
  | sidRender => exact exec_sidRender_withSn g harr
  | sidRow j a d hj => rw [hj.exec_eq, hj.exec_eq]; rfl
  | snRow j b hj => rw [actsOnSid_of_snRow hj] at hi; cases hi
  | _ => cases hi

/-- An operation on the SN76489 has the same outcome whatever SID stands beside it. -/
theorem exec_withSid {i : Instr} (hi : actsOnSid i = false) (c : Sid) (s : State) :
    exec i (withSid c s) = mapOutcome (withSid c) (exec i s) := by
  induction i using instr_cases with
  | snCreate cfg => rw [exec_snCreate, exec_snCreate, mapOutcome_guarded]; rfl
  | snReset => rfl
  | snWrite b => rw [exec_snWrite, exec_snWrite, mapOutcome_guarded]; rfl
  | snGgWrite b => rw [exec_snGgWrite, exec_snGgWrite, mapOutcome_guarded]; rfl
  | snSetMute k f => rw [exec_snSetMute, exec_snSetMute, mapOutcome_guarded]; rfl
  | snStep => rfl
  | snStepStereo => rfl
  | snRow j b hj => rw [hj.exec_eq, hj.exec_eq]; rfl
  | sidRow j a d hj => rw [actsOnSid_of_sidRow hj] at hi; cases hi
  | _ => cases hi

/-- Settles O58: that an operation does not write the other chip is that it gives back the one that stood there. -/
theorem theTwoChipsAreIsolated : Obligations.TheTwoChipsAreIsolated := by
  unfold Obligations.TheTwoChipsAreIsolated
  refine ⟨fun i s t harr h => ⟨fun hi => ?_, fun hi => ?_, ?_⟩,
    fun i s c g harr => ⟨fun hi => exec_withSn hi g harr, fun hi => exec_withSid hi c s⟩⟩
  · have hsame : exec i (withSn s.sn s) = .next t := h
    rw [exec_withSn hi s.sn harr, h] at hsame
    injection hsame with hsame
    rw [← hsame]
    rfl
  · have hsame : exec i (withSid s.sid s) = .next t := h
    rw [exec_withSid hi s.sid s, h] at hsame
    injection hsame with hsame
    rw [← hsame]
    rfl
  · rintro (rfl | rfl | ⟨c, rfl⟩) a hosc henv
    · cases h
      rfl
    · obtain ⟨-, rfl⟩ := exec_sidRender_eq_next_iff.mp h
      rw [readReg_rendered_ne _ hosc henv, readReg, renderVoices_reg harr]
      rfl
    · obtain ⟨-, rfl⟩ := next_of_guarded (exec_sidAdvance c s) h
      rw [advanceAll_none _ harr]
      rfl

-- ---- the ranges of a fresh machine (70 R320 to R324)

/-- A reset voice is in range, with NOISE_SEED in the range of 10_state R28. -/
theorem voiceReset_range {P : SidParams} (hP : ParamsOk P) : AdsrLegal (Voice.reset P.noiseSeed)
    ∧ EnvelopeOk P (Voice.reset P.noiseSeed) ∧ WaveOk (Voice.reset P.noiseSeed) := by
  have hexp := expPeriod_pos hP 0
  obtain ⟨-, -, -, -, hseed, hseed', -⟩ := hP
  refine ⟨(adsrLegal_iff _).mpr ⟨rfl, fun hatk => by cases hatk⟩, ⟨(by decide : 0 < 32768), Nat.zero_le _, hexp⟩, ?_⟩
  have hphase : 0 < 2 ^ 28 := by decide
  exact ⟨hphase, hphase, hseed, hseed', Nat.zero_le _, Nat.zero_le _⟩

theorem sidOk_created {P : SidParams} (hP : ParamsOk P) {cfg : SidConfig} (hcfg : SidConfigOk P cfg) :
    SidOk P (Sid.created P.noiseSeed cfg) := by
  obtain ⟨hadsr, henv, hwave⟩ := voiceReset_range hP
  exact ⟨rfl, ⟨hadsr, hadsr, hadsr⟩, ⟨henv, henv, henv⟩, ⟨hwave, hwave, hwave⟩, ⟨.inl rfl, rfl, rfl⟩, hcfg⟩

/-- REALSTEP is at least 1 for every accepted sample rate (43 R262). -/
theorem realStep_pos {cfg : SnConfig} (hcfg : SnConfigOk cfg) : 1 ≤ realStep cfg := by
  obtain ⟨hpos, hle, -⟩ := hcfg
  exact (Nat.one_le_div_iff hpos).mpr hle

theorem snOk_created {cfg : SnConfig} (hcfg : SnConfigOk cfg) : SnOk (Sn.created cfg) := by
  have hreal := realStep_pos hcfg
  have htone : ToneOk cfg Tone.reset := ⟨Nat.zero_le _, le_rfl, Nat.zero_le _, outOk_zero cfg⟩
  have hnoise : NoiseOk cfg (Noise.reset cfg.noiseSeed) := by
    obtain ⟨-, -, -, -, hpos, hle, -⟩ := hcfg
    exact ⟨le_rfl, Nat.zero_le _, hle, fun _ => Nat.one_le_iff_ne_zero.mp hpos, outOk_zero cfg⟩
  exact ⟨hcfg, ⟨htone, htone, htone⟩, hnoise, Nat.zero_le _, (by decide : 0 < 2 ^ 24),
    by change 0 < realStep cfg + snUnitStep cfg; omega⟩

theorem paramsOk_candidate : ParamsOk candidateParams := by
  have hexp : ∀ x ∈ candidateExpPeriod, 1 ≤ x ∧ x ≤ 255 := by
    intro x hx
    simp only [candidateExpPeriod, List.mem_append, List.mem_replicate] at hx
    omega
  have hlen : candidateExpPeriod.length = 256 := by
    simp only [candidateExpPeriod, List.length_append, List.length_replicate]
  exact ⟨rfl, by decide, hlen, hexp, by decide, by decide, by decide, by decide⟩

/-- Settles O60. -/
theorem resetIsInEveryRange : Obligations.ResetIsInEveryRange := by
  unfold Obligations.ResetIsInEveryRange
  exact ⟨paramsOk_candidate, sidOk_created paramsOk_candidate (by decide), snOk_created (by decide)⟩

-- ---- the ranges of an accepted configuration (70 R320, R322)

theorem sidConfigOk_of_createOk {P : SidParams} {m : Int} {ctx : HostContext} (h : createOk P m ctx = true)
    (model : ChipModel) : SidConfigOk P (sidConfigOf model ctx) := by
  simp only [createOk, Instr.wellFormed, HostContext.ok, Bool.and_eq_true, decide_eq_true_eq, and_assoc] at h
  obtain ⟨-, hrate, hhz, hratio, hratio', hatt, hdiv⟩ := h
  simp only [SidConfigOk, sidConfigOf, divisor]
  omega

theorem snConfigOk_of_ok {c : SnArgs} (h : c.ok = true) : SnConfigOk (snConfigOf c) := by
  simp only [SnArgs.ok, Bool.and_eq_true, Bool.or_eq_true, decide_eq_true_eq, and_assoc] at h
  obtain ⟨-, hrate, hrate', hclock, hclock', -, -, hseed, hseed', htap, htap', hmult, hlen, -⟩ := h
  simp only [SnConfigOk, snConfigOf, List.length_map]
  omega

-- ---- the SN76489 writes keep the ranges

theorem SnOk.setTone {g : Sn} (h : SnOk g) (i : Ix3) {t : Tone} (ht : ToneOk g.cfg t) : SnOk (setTone i t g) := by
  obtain ⟨hcfg, htones, hnoise, hadr, hbacc, hstime⟩ := h
  exact ⟨hcfg, TriAll.triSet htones i ht, hnoise, hadr, hbacc, hstime⟩

theorem SnOk.latch {g : Sn} (h : SnOk g) {a : Nat} (ha : a ≤ 7) : SnOk (latch a g) := by
  obtain ⟨hcfg, htones, hnoise, -, hbacc, hstime⟩ := h
  exact ⟨hcfg, htones, hnoise, ha, hbacc, hstime⟩

theorem SnOk.tone {g : Sn} (h : SnOk g) (i : Ix3) : ToneOk g.cfg (triGet g.tones i) := by
  obtain ⟨-, htones, -⟩ := h
  exact (triAll_iff _ _).mp htones i

theorem SnOk.setDividerLow {g : Sn} (h : SnOk g) (i : Ix3) {d : Nat} (hd : d ≤ 15) : SnOk (setDividerLow i d g) := by
  obtain ⟨-, hvol, hcnt, hout⟩ := SnOk.tone h i
  have hfreq : ((triGet g.tones i).freq &&& 0x3F0) ||| d < 2 ^ 10 :=
    Nat.or_lt_two_pow (Nat.and_lt_two_pow _ (by decide)) (by omega)
  exact SnOk.setTone h i ⟨by dsimp only; omega, hvol, hcnt, hout⟩

theorem SnOk.setDividerHigh {g : Sn} (h : SnOk g) (i : Ix3) {n : Nat} (hn : n ≤ 63) : SnOk (setDividerHigh i n g) := by
  obtain ⟨-, hvol, hcnt, hout⟩ := SnOk.tone h i
  have hfreq : (n <<< 4) ||| ((triGet g.tones i).freq &&& 0xF) < 2 ^ 10 :=
    Nat.or_lt_two_pow (by rw [Nat.shiftLeft_eq]; omega) (Nat.and_lt_two_pow _ (by decide))
  exact SnOk.setTone h i ⟨by dsimp only; omega, hvol, hcnt, hout⟩

theorem SnOk.setToneVolume {g : Sn} (h : SnOk g) (i : Ix3) {d : Nat} (hd : d ≤ 15) : SnOk (setToneVolume i d g) := by
  obtain ⟨hfreq, -, hcnt, hout⟩ := SnOk.tone h i
  exact SnOk.setTone h i ⟨hfreq, hd, hcnt, hout⟩

theorem SnOk.setMute {g : Sn} (h : SnOk g) (i : Ix3) (f : Bool) : SnOk (setMute i f g) := by
  obtain ⟨hfreq, hvol, hcnt, hout⟩ := SnOk.tone h i
  exact SnOk.setTone h i ⟨hfreq, hvol, hcnt, hout⟩

theorem SnOk.setNoiseControl {g : Sn} (h : SnOk g) (mode : Bool) {rate : Nat} (hr : rate ≤ 3) :
    SnOk (setNoiseControl mode rate g) := by
  obtain ⟨hcfg, htones, ⟨hvol, -, -, -, hout⟩, hadr, hbacc, hstime⟩ := h
  obtain ⟨-, -, -, -, hseed, hseed', -⟩ := id hcfg
  exact ⟨hcfg, htones, ⟨hvol, hr, hseed', fun _ => Nat.one_le_iff_ne_zero.mp hseed, hout⟩, hadr, hbacc, hstime⟩

theorem SnOk.setNoiseVolume {g : Sn} (h : SnOk g) {d : Nat} (hd : d ≤ 15) : SnOk (setNoiseVolume d g) := by
  obtain ⟨hcfg, htones, ⟨-, hrate, hseed, hne, hout⟩, hadr, hbacc, hstime⟩ := h
  exact ⟨hcfg, htones, ⟨hd, hrate, hseed, hne, hout⟩, hadr, hbacc, hstime⟩

theorem SnOk.setStereo {g : Sn} (h : SnOk g) (b : Byte) : SnOk (setStereo b g) := h

theorem SnOk.latchWrite {g : Sn} (h : SnOk g) {aaa d : Nat} (ha : aaa ≤ 7) (hd : d ≤ 15) : SnOk (latchWrite aaa d g) := by
  have hlatch := SnOk.latch h ha
  rcases latchWrite_cases aaa d with ⟨i, hw⟩ | ⟨i, hw⟩ | hw | hw <;> rw [hw]
  · exact SnOk.setDividerLow hlatch i hd
  · exact SnOk.setToneVolume hlatch i hd
  · exact SnOk.setNoiseControl hlatch _ (by rw [slice_zero]; omega)
  · exact SnOk.setNoiseVolume hlatch hd

theorem SnOk.dataWrite {g : Sn} (h : SnOk g) {n : Nat} (hn : n ≤ 63) : SnOk (dataWrite n g) := by
  cases hd : dividerOf g.adr with
  | some i =>
    rw [dataWrite_some hd]
    exact SnOk.setDividerHigh h i hn
  | none =>
    rw [dataWrite_none hd]
    exact h

theorem SnOk.snByte {g : Sn} (h : SnOk g) (b : Nat) : SnOk (snByte b g) := by
  unfold Machine.snByte
  split
  · have haddr : slice b 6 4 ≤ 7 := Nat.le_of_lt_succ (Nat.mod_lt _ (by decide))
    exact SnOk.latchWrite h haddr (by rw [slice_zero]; omega)
  · exact SnOk.dataWrite h (by rw [slice_zero]; omega)

-- ---- the whole machine keeps the ranges

section
variable {s : State} (h : Inv s)
include h

theorem Inv.paramsOk : ParamsOk s.params := by
  obtain ⟨hparams, -⟩ := h
  exact hparams

theorem Inv.snOk : SnOk s.sn := by
  obtain ⟨-, -, hsn⟩ := h
  exact hsn

theorem Inv.ringMSB : s.sid.ringMSB = 0 ∨ s.sid.ringMSB = 2 ^ 27 := by
  obtain ⟨-, ⟨-, -, -, -, ⟨hring, -⟩, -⟩, -⟩ := h
  exact hring

theorem Inv.onSn {f : Sn → Sn} (hf : SnOk (f s.sn)) : Inv (onSn f s) := by
  obtain ⟨hparams, hsid, -⟩ := h
  exact ⟨hparams, hsid, hf⟩

theorem Inv.storeReg {a : Nat} (ha : a < 29) (d : Byte) : Inv (storeReg a d s) := by
  obtain ⟨hparams, ⟨hbank, hsid⟩, hsn⟩ := h
  exact ⟨hparams, ⟨bankWf_storeReg s a d ha hbank, hsid⟩, hsn⟩

theorem Inv.applyAct (x : HostAct) : Inv (applyAct x s) := by
  cases x with
  | sidWrite a d => exact Inv.storeReg h a.isLt d
  | sidRead a => exact h
  | snWrite b => exact Inv.onSn h (SnOk.snByte (Inv.snOk h) _)
  | snGgWrite b => exact Inv.onSn h (SnOk.setStereo (Inv.snOk h) b)
  | snSetMute i f => exact Inv.onSn h (SnOk.setMute (Inv.snOk h) i f)

omit h in
theorem Inv.applyActs (l : List HostAct) : ∀ {s : State}, Inv s → Inv (applyActs l s) := by
  induction l with
  | nil => exact fun h => h
  | cons x rest ih => exact fun h => ih (Inv.applyAct h x)

theorem Inv.hostPoint : Inv (hostPoint s) := by
  unfold Machine.hostPoint
  split
  · exact h
  · next acts rest _ => exact Inv.applyActs acts (s := { s with arrivals := rest }) h

/-- A voice in range put in place, with coupling values in range. -/
theorem Inv.setVoice (v : Ix3) {V : Voice} (hadsr : AdsrLegal V) (henv : EnvelopeOk s.params V) (hwave : WaveOk V)
    (rise : Bool) {msb : Nat} (hmsb : msb = 0 ∨ msb = 2 ^ 27) :
    Inv { s with sid := { s.sid with voices := triSet s.sid.voices v V, syncRise := rise, ringMSB := msb } } := by
  obtain ⟨hparams, ⟨hbank, hadsrs, henvs, hwaves, ⟨-, htaps⟩, hcfg⟩, hsn⟩ := h
  exact ⟨hparams, ⟨hbank, TriAll.triSet hadsrs v hadsr, TriAll.triSet henvs v henv, TriAll.triSet hwaves v hwave,
    ⟨hmsb, htaps⟩, hcfg⟩, hsn⟩

theorem Inv.voice (v : Ix3) : AdsrLegal (voice s v) ∧ EnvelopeOk s.params (voice s v) ∧ WaveOk (voice s v) := by
  obtain ⟨-, ⟨-, hadsrs, henvs, hwaves, -⟩, -⟩ := h
  exact ⟨(triAll_iff _ _).mp hadsrs v, (triAll_iff _ _).mp henvs v, (triAll_iff _ _).mp hwaves v⟩

theorem Inv.advanceSub (v : Ix3) (c : Nat) : Inv (advanceSub v c s) := by
  obtain ⟨hadsr, henv, hwave⟩ := Inv.voice h v
  exact Inv.setVoice h v (AdsrLegal.advanceVoice hadsr _ _ _ _ _) (EnvelopeOk.advanceVoice (Inv.paramsOk h) henv _ _ _ _)
    (WaveOk.of_sameWave hwave (advanceVoice_sameWave _ _ _ _ _ _)) s.sid.syncRise (Inv.ringMSB h)

theorem Inv.advanceAll (c : Nat) : Inv (advanceAll c s) :=
  Inv.advanceSub (Inv.hostPoint (Inv.advanceSub (Inv.hostPoint (Inv.advanceSub h .i0 c)) .i1 c)) .i2 c

end

/-- A voice sub-step of a render, with the interleaving point after it, keeps the ranges. -/
theorem Inv.renderPoint_renderSub {r : Rendering} (h : Inv r.st) (v : Ix3) : Inv (renderPoint (renderSub v r)).st := by
  obtain ⟨hadsr, henv, hwave⟩ := Inv.voice h v
  have hsub : Inv (renderSub v r).st :=
    Inv.setVoice h v (V := (subOut v r).voice) hadsr henv (waveOk_subOut v hwave (Inv.ringMSB h)) _ (msbInPlace_cases _)
  exact Inv.hostPoint hsub

theorem Inv.renderVoices {s : State} (h : Inv s) : Inv (renderVoices s).st :=
  Inv.renderPoint_renderSub (Inv.renderPoint_renderSub (Inv.renderPoint_renderSub (r := renderStart s) h .i0) .i1) .i2

/-- A render that goes on has checked its two taps, and writes two bytes of the bank. -/
theorem Inv.rendered {r : Rendering} (h : Inv r.st) (hin : RenderInRange r) : Inv (rendered r) := by
  obtain ⟨hparams, ⟨hbank, hadsrs, henvs, hwaves, ⟨hring, -⟩, hcfg⟩, hsn⟩ := h
  exact ⟨hparams, ⟨bankWf_storeReadBacks r.w (storeTaps (renderTaps r) r.st) hbank, hadsrs, henvs, hwaves,
    ⟨hring, hin.lp, hin.bp⟩, hcfg⟩, hsn⟩

/-- Every instruction that goes on keeps the ranges. -/
theorem exec_keeps_inv {i : Instr} {s t : State} (hs : Inv s) (h : exec i s = .next t) : Inv t := by
  obtain ⟨hparams, hsid, hsn⟩ := id hs
  induction i using instr_cases with
  | sidCreate m ctx =>
    obtain ⟨hok, rfl⟩ := next_of_guarded (exec_sidCreate m ctx s) h
    exact ⟨hparams, sidOk_created hparams (sidConfigOk_of_createOk hok _), hsn⟩
  | sidReset =>
    cases h
    obtain ⟨hbank, -, -, -, -, hcfg⟩ := hsid
    obtain ⟨-, hvoices⟩ := sidOk_created hparams hcfg
    exact ⟨hparams, ⟨hbank, hvoices⟩, hsn⟩
  | sidWrite a d =>
    obtain ⟨hok, rfl⟩ := next_of_guarded (exec_sidWrite a d s) h
    have ha : a.toNat < 29 := by
      simp only [Instr.wellFormed, Bool.and_eq_true, decide_eq_true_eq] at hok
      omega
    exact Inv.storeReg hs ha _
  | sidRead a =>
    obtain ⟨-, rfl⟩ := next_of_guarded (exec_sidRead a s) h
    exact hs
  | sidAdvance c =>
    obtain ⟨-, rfl⟩ := next_of_guarded (exec_sidAdvance c s) h
    exact Inv.advanceAll hs _
  | sidRender =>
    obtain ⟨hin, rfl⟩ := exec_sidRender_eq_next_iff.mp h
    exact Inv.rendered (Inv.renderVoices hs) hin
  | snCreate cfg =>
    obtain ⟨hok, rfl⟩ := next_of_guarded (exec_snCreate cfg s) h
    exact ⟨hparams, hsid, snOk_created (snConfigOk_of_ok hok)⟩
  | snReset =>
    cases h
    obtain ⟨hcfg, -⟩ := hsn
    exact ⟨hparams, hsid, snOk_created hcfg⟩
  | snWrite b =>
    obtain ⟨-, rfl⟩ := next_of_guarded (exec_snWrite b s) h
    exact Inv.onSn hs (SnOk.snByte hsn _)
  | snGgWrite b =>
    obtain ⟨-, rfl⟩ := next_of_guarded (exec_snGgWrite b s) h
    exact Inv.onSn hs (SnOk.setStereo hsn _)
  | snSetMute k f =>
    obtain ⟨-, rfl⟩ := next_of_guarded (exec_snSetMute k f s) h
    exact Inv.onSn hs (SnOk.setMute hsn _ _)
  | snStep => cases h; exact Inv.onSn hs (SnOk.rateAdvance hsn)
  | snStepStereo => cases h; exact Inv.onSn hs (SnOk.rateAdvance hsn)
  | sidRow j a d hj =>
    rw [hj.exec_eq] at h
    cases h
    exact Inv.storeReg hs hj.offset_lt d
  | snRow j b hj =>
    rw [hj.exec_eq] at h
    cases h
    exact Inv.onSn hs (SnOk.snByte hsn _)

/-- Settles O59: a step is idle or runs one instruction; taking the code from the queue touches no range. -/
theorem stepKeepsEveryRange : Obligations.StepKeepsEveryRange := by
  unfold Obligations.StepKeepsEveryRange
  intro s t hs h
  rcases step_cases s with ⟨-, hstep⟩ | ⟨c, rest, e, -, -, hstep⟩ | ⟨c, rest, i, -, -, hstep⟩ <;> rw [hstep] at h
  · cases h
    exact hs
  · cases h
  · exact exec_keeps_inv (s := { s with queue := rest, pos := s.pos + 1 }) hs h

end Sys2Proof.Proofs
